-- ==== Sys2Proof/Word.lean ====
section
/-! DEFINITION. The machine's words: bytes, the 32-bit words of the link and of the command port, the FX word of
the FX128 profile (spec/00_scope.md R12: FX_W = 128), and register addresses (spec/20_memory.md R65). -/

namespace Sys2Proof

/-- One byte of a packet space (20_memory.md R65). -/
abbrev Byte := BitVec 8

/-- A 32-bit word: a packet field, a U32 or an S32 register (00_scope.md R8, 10_state.md R22). -/
abbrev Word32 := BitVec 32

/-- An FX_W-bit word: an FX register, DATA_IN or DATA_OUT (00_scope.md R12; 10_state.md R22, R41). -/
abbrev FxWord := BitVec 128

/-- A 16-bit host register address (20_memory.md R65). -/
abbrev RegAddr := BitVec 16

end Sys2Proof
end

