-- ==== Sys2Proof/Syntax.lean ====
section
/-! DEFINITION. The seven host operations with their operands (spec/30_encoding.md R82 to R84), the host registers
by name (spec/10_state.md), and the assembly lines and pseudo-instructions of R87 and R88. -/

namespace Sys2Proof

/-- The host operations, one constructor for each row of the opcode table (30_encoding.md R84). An operand is the
field of CMD or of DATA_IN that R83 gives the operation. -/
inductive Instr
  /-- NOP (44_host_ops.md R140). -/
  | nop
  /-- INIT (44_host_ops.md R139). -/
  | init
  /-- CMDGEN with `period_ns`, the S32 in DATA_IN[31:0] (41_cmdgen.md R107). -/
  | cmdgen (period : Word32)
  /-- LINK_WRITE (42_link_write.md R120). -/
  | linkWrite
  /-- LINK_READ (43_feedback_read.md R130). -/
  | linkRead
  /-- REG_WRITE of the whole DATA_IN to the register at ADDR (44_host_ops.md R137). -/
  | regWrite (addr : RegAddr) (data : FxWord)
  /-- REG_READ of the register at ADDR (44_host_ops.md R138). -/
  | regRead (addr : RegAddr)
deriving DecidableEq, Repr

/-- The global registers, in the order of their addresses 0x0000 to 0x000E (10_state.md R24 to R39). -/
inductive GlobalReg
  | coreMode | err | linkEnable | linkReset | linkStatus | hsState | hwResetIn | hwResetOut
  | lastRxTag | attemptCount | dt | recipDt | oldPeriod | prevReset | rxFresh
deriving DecidableEq, Repr

/-- The registers of one axis bank, in the order of their offsets 0x00 to 0x11 (10_state.md R42 to R59). -/
inductive AxisReg
  | mode | fbType | enable | scale | pgain | ff1gain | deadband | maxvel | maxaccel
  | posCmd | velCmd | posFb | count | freqCmd | scaleRecip | oldScale | prevCmd | oldCount
deriving DecidableEq, Repr

/-- A host register by name (20_memory.md R66). -/
inductive Reg
  | global (r : GlobalReg)
  | setpoint (n : Nat)
  | pv (m : Nat)
  | dout (k : Nat)
  | din (k : Nat)
  | dinNot (k : Nat)
  | axis (j : Nat) (r : AxisReg)
deriving DecidableEq, Repr

/-- `<reg>` of an assembly line: a 16-bit address or a register name (30_encoding.md R87). -/
inductive AsmReg
  | address (a : Nat)
  | name (r : Reg)
deriving DecidableEq, Repr

/-- `<value>` of an assembly line: an integer, or `fx(<decimal>)`, the decimal being `digits / 10^places`
(30_encoding.md R87). -/
inductive AsmValue
  | int (v : Int)
  | fx (digits : Int) (places : Nat)
deriving DecidableEq, Repr

/-- One assembly line: the seven commands of 30_encoding.md R87 and the three pseudo-instructions of R88. -/
inductive AsmLine
  | nop
  | init
  | cmdgen (period : Int)
  | linkWrite
  | linkRead
  | regWrite (r : AsmReg) (v : AsmValue)
  | regRead (r : AsmReg)
  | tick (period : Int)
  | clrerr
  | enableAxis (j : Nat)
deriving DecidableEq, Repr

end Sys2Proof
end

