-- ==== Sys2Proof/Decode.lean ====
section
/-! DEFINITION. The command decoder of spec/30_encoding.md R82 to R86, total on every CMD word and DATA_IN word, and
after it the encoder and the opcode table as match and mask rows. -/

namespace Sys2Proof

/-- OPC, bits 31:24 of CMD (30_encoding.md R82). -/
def opcField (cmd : Word32) : BitVec 8 := cmd.extractLsb' 24 8

/-- RSV, bits 23:16 of CMD (30_encoding.md R82). -/
def rsvField (cmd : Word32) : BitVec 8 := cmd.extractLsb' 16 8

/-- ADDR, bits 15:0 of CMD (30_encoding.md R82). -/
def addrField (cmd : Word32) : RegAddr := cmd.extractLsb' 0 16

/-- DATA_IN[31:0], the period operand of CMDGEN (30_encoding.md R83); the bits above are ignored. -/
def periodField (dataIn : FxWord) : Word32 := dataIn.extractLsb' 0 32

/-- Why a command word is illegal (30_encoding.md R85). -/
inductive IllegalWord
  /-- RSV is not 0. -/
  | nonzeroRsv
  /-- OPC is 0x07 to 0xFF. -/
  | reservedOpcode
  /-- ADDR is not 0 and OPC is neither REG_WRITE nor REG_READ. -/
  | strayAddr
deriving DecidableEq, Repr

/-- What the decoder answers: the operation, or why the word is illegal. -/
inductive Decoded
  | instr (i : Instr)
  | illegal (why : IllegalWord)
deriving DecidableEq, Repr

/-- An operation that takes no register address: its ADDR must be 0 (30_encoding.md R82, R85). -/
def noAddr (addr : RegAddr) (i : Instr) : Decoded :=
  if addr = 0 then .instr i else .illegal .strayAddr

/-- The decoder of 30_encoding.md R85, on one CMD word and one DATA_IN word (R86). -/
def decode (cmd : Word32) (dataIn : FxWord) : Decoded :=
  if rsvField cmd ≠ 0 then .illegal .nonzeroRsv
  else
    match (opcField cmd).toNat with
    | 0x00 => noAddr (addrField cmd) .nop
    | 0x01 => noAddr (addrField cmd) .init
    | 0x02 => noAddr (addrField cmd) (.cmdgen (periodField dataIn))
    | 0x03 => noAddr (addrField cmd) .linkWrite
    | 0x04 => noAddr (addrField cmd) .linkRead
    | 0x05 => .instr (.regWrite (addrField cmd) dataIn)
    | 0x06 => .instr (.regRead (addrField cmd))
    | _ => .illegal .reservedOpcode

/-- The operation, where the word is legal. -/
def Decoded.instr? : Decoded → Option Instr
  | .instr i => some i
  | .illegal _ => none

/-- OPC of each operation (30_encoding.md R84). -/
def Instr.opcode : Instr → BitVec 8
  | .nop => 0x00
  | .init => 0x01
  | .cmdgen _ => 0x02
  | .linkWrite => 0x03
  | .linkRead => 0x04
  | .regWrite _ _ => 0x05
  | .regRead _ => 0x06

/-- ADDR of each operation: the register address, or the 0 that R82 requires. -/
def Instr.addrOperand : Instr → RegAddr
  | .nop => 0
  | .init => 0
  | .cmdgen _ => 0
  | .linkWrite => 0
  | .linkRead => 0
  | .regWrite addr _ => addr
  | .regRead addr => addr

/-- DATA_IN of each operation (30_encoding.md R83). DESIGN CHOICE (log 16): the encoder puts 0 in the bits that the
operation ignores. -/
def Instr.dataOperand : Instr → FxWord
  | .nop => 0
  | .init => 0
  | .cmdgen period => period.setWidth 128
  | .linkWrite => 0
  | .linkRead => 0
  | .regWrite _ data => data
  | .regRead _ => 0

/-- The CMD word with these fields and RSV = 0 (30_encoding.md R82). -/
def cmdWord (opc : BitVec 8) (addr : RegAddr) : Word32 := opc ++ (0#8 ++ addr)

/-- The CMD word and the DATA_IN word of an operation (30_encoding.md R82 to R84). -/
def encode (i : Instr) : Word32 × FxWord := (cmdWord i.opcode i.addrOperand, i.dataOperand)

/-- A row of the opcode table: a CMD word is of the row when its bits under `mask` are those of `bits`. -/
structure OpcodeRow where
  mnemonic : String
  bits : Word32
  mask : Word32
deriving DecidableEq, Repr

/-- The rows of spec/opcode_table.json. -/
def opcodeRows : List OpcodeRow :=
  [⟨"NOP", 0x00000000, 0xFFFFFFFF⟩, ⟨"INIT", 0x01000000, 0xFFFFFFFF⟩, ⟨"CMDGEN", 0x02000000, 0xFFFFFFFF⟩,
   ⟨"LINK_WRITE", 0x03000000, 0xFFFFFFFF⟩, ⟨"LINK_READ", 0x04000000, 0xFFFFFFFF⟩,
   ⟨"REG_WRITE", 0x05000000, 0xFFFF0000⟩, ⟨"REG_READ", 0x06000000, 0xFFFF0000⟩]

/-- The CMD word is of this row. -/
def OpcodeRow.covers (r : OpcodeRow) (cmd : Word32) : Bool := cmd &&& r.mask == r.bits

/-- The mnemonic of an operation (30_encoding.md R84). -/
def Instr.mnemonic : Instr → String
  | .nop => "NOP"
  | .init => "INIT"
  | .cmdgen _ => "CMDGEN"
  | .linkWrite => "LINK_WRITE"
  | .linkRead => "LINK_READ"
  | .regWrite _ _ => "REG_WRITE"
  | .regRead _ => "REG_READ"

/-- The CMD word and the DATA_IN word that `nbits` bits `w` of an opcode-table row stand for: CMD is bits 31:0,
DATA_IN the operand word after it, bits 159:32, and every bit from `nbits` up is 0 (log 16). -/
def tableWords (nbits w : Nat) : Word32 × FxWord :=
  (BitVec.ofNat 32 (w % 2 ^ nbits), BitVec.ofNat 128 (w % 2 ^ nbits / 2 ^ 32))

/-- The operation the decoder reads from an instruction whose bits are `w`, or none where it rejects it. -/
def decodeTableWord (nbits w : Nat) : Option Instr :=
  (decode (tableWords nbits w).1 (tableWords nbits w).2).instr?

end Sys2Proof
end

