-- ==== Sys2Proof/Config.lean ====
section
/-! DEFINITION. The implementation parameters of spec/00_scope.md R7 and the free values: what the remote end
answers (R18) and the idle levels of two data lines, which no rule fixes. -/

namespace Sys2Proof

/-- TRANSPORT of 00_scope.md R7: which of the two link transports the core is built with. -/
inductive Transport
  | byteSerial
  | wordParallel
deriving DecidableEq, Repr

/-- The configuration parameters of 00_scope.md R7, under the names of the table there. FX_W and FX_F are fixed
by the profile FX128 (R3, R12) and are no field. -/
structure Params where
  /-- J, the number of axes. -/
  J : Nat
  /-- N, the number of analog setpoint words sent. -/
  N : Nat
  /-- M, the number of analog process-value words received. -/
  M : Nat
  /-- K, the number of digital outputs and of digital inputs. -/
  K : Nat
  /-- BASE_FREQ_HZ, the hardware base frequency in Hz. -/
  baseFreqHz : Nat
  /-- TAG_WRITE, the outbound header tag. -/
  tagWrite : Word32
  /-- TAG_DATA, the inbound "valid data" tag. -/
  tagData : Word32
  /-- TAG_ESTOP, the inbound "e-stop" tag. -/
  tagEstop : Word32
  /-- TRANSPORT. -/
  transport : Transport
deriving DecidableEq, Repr

/-- DESIGN CHOICE (log 1): the parameters of the core that `State.reset` describes are the common parameters of
95_test_vectors.md; PRESUMED (log 10): its tags are the general-knowledge defaults of 30_encoding.md R91, R93. Every
statement speaks of every value of the parameters. -/
def Params.example95 : Params where
  J := 2
  N := 1
  M := 1
  K := 8
  baseFreqHz := 1000000
  tagWrite := 0x77726974
  tagData := 0x64617461
  tagEstop := 0x65737470
  transport := .byteSerial

/-- FREE VALUE (log 3): whether the remote end answers ABORT to the exchange of this index, where the state's list
of answers says nothing of it (00_scope.md R18: "The model must admit every inbound stream and the ABORT answer"). -/
opaque Config.remoteAborts : Nat → Bool

/-- FREE VALUE (log 3): the byte the remote end sends at this offset of the exchange of this index, where the
state's list of answers says nothing of it (00_scope.md R18). -/
opaque Config.remoteByte : Nat → Nat → Byte

/-- FREE VALUE (log 6): the level of LINK_MOSI after the exchange of this index; 70_reset_and_hazards.md R162 gives
its level at reset only. -/
opaque Config.idleMosi : Nat → Bool

/-- FREE VALUE (log 6): the level of LINK_WDO after the exchange of this index; 70_reset_and_hazards.md R162 gives
its level at reset only. -/
opaque Config.idleWdo : Nat → Word32

/-- FREE VALUE (log 19): the operand word that `fx(<decimal>)` stands for where decimal * 2^FX_F, rounded toward zero,
is not in the FX range; 30_encoding.md R87 and 40_fixed_point.md R106 (c) state no word for it. The arguments are the
decimal's digits and places. -/
opaque Config.fxBeyondRange : Int → Nat → FxWord

end Sys2Proof
end

