-- ==== Sys2Proof/Machine/State.lean ====
section
/-! DEFINITION. The state of the core, every piece that spec/10_state.md gives it, with the levels of its pins
(spec/20_memory.md R63), the inputs that the host and the remote end still have to present, and its state after reset
(spec/10_state.md R62, spec/70_reset_and_hazards.md R161, R162). -/

namespace Sys2Proof.Machine

/-- Why the machine stops with a fault. Both stops are in states that no run from reset reaches. -/
inductive Fault
  /-- Raised by CMDGEN in RUN mode when some axis has a MODE above 1: 41_cmdgen.md R113 says no such branch exists,
  and 10_state.md R61 (f) that no such state is reached. Safe: the model stops where the spec gives no effect (log 7). -/
  | modeTagOutOfRange
  /-- Raised by LINK_READ of a fresh packet in RUN mode when some axis has an FB_TYPE above 1: 92_eei_decisions.md
  D36, "an unknown tag has no defined decode". Safe, as above (log 7). -/
  | fbTypeTagOutOfRange
deriving DecidableEq, Repr

/-- Why the machine has no meaning for an instruction. -/
inductive Refusal
  /-- Raised by `exec` for an instruction whose meaning is not written; no arm does. Safe. -/
  | notModelled (mnemonic : String)
deriving DecidableEq, Repr

/-- An error cause (60_exceptions.md R145). -/
inductive ErrCause
  | cfgErr | illegalCmd | badAddr | roWrite | cfgLocked | notRun | periodErr | estop | badTag | xferFail
deriving DecidableEq, Repr

/-- CORE_MODE (10_state.md R24, 60_exceptions.md R155). -/
inductive CoreMode
  | config
  | run
deriving DecidableEq, Repr

/-- HS_STATE (10_state.md R29, 42_link_write.md R125). -/
inductive HsState
  | disabled
  | armed
  | active
  | fault
deriving DecidableEq, Repr

/-- The register bank of one axis (10_state.md R42 to R59). -/
structure Axis where
  /-- MODE, U8 (R42). -/
  mode : BitVec 8
  /-- FB_TYPE, U8 (R43). -/
  fbType : BitVec 8
  /-- ENABLE, BOOL (R44). -/
  enable : Bool
  /-- SCALE, FX (R45). -/
  scale : FxWord
  /-- PGAIN, FX (R46). -/
  pgain : FxWord
  /-- FF1GAIN, FX (R47). -/
  ff1gain : FxWord
  /-- DEADBAND, FX (R48). -/
  deadband : FxWord
  /-- MAXVEL, FX (R49). -/
  maxvel : FxWord
  /-- MAXACCEL, FX (R50). -/
  maxaccel : FxWord
  /-- POS_CMD, FX (R51). -/
  posCmd : FxWord
  /-- VEL_CMD, FX (R52). -/
  velCmd : FxWord
  /-- POS_FB, FX (R53). -/
  posFb : FxWord
  /-- COUNT, S64 (R54). -/
  count : BitVec 64
  /-- FREQ_CMD, FX (R55). -/
  freqCmd : FxWord
  /-- SCALE_RECIP, FX (R56). -/
  scaleRecip : FxWord
  /-- OLD_SCALE, FX (R57). -/
  oldScale : FxWord
  /-- PREV_CMD, FX (R58). -/
  prevCmd : FxWord
  /-- OLD_COUNT, S32 (R59). -/
  oldCount : Word32
deriving DecidableEq, Repr

/-- An axis bank right after reset (10_state.md R62): 0 everywhere, but FX_ONE = 2^64 in the three scales. -/
def Axis.reset : Axis where
  mode := 0
  fbType := 0
  enable := false
  scale := 0x10000000000000000
  pgain := 0
  ff1gain := 0
  deadband := 0
  maxvel := 0
  maxaccel := 0
  posCmd := 0
  velCmd := 0
  posFb := 0
  count := 0
  freqCmd := 0
  scaleRecip := 0x10000000000000000
  oldScale := 0x10000000000000000
  prevCmd := 0
  oldCount := 0

/-- The bytes of a packet space that are not 0x00, by offset (20_memory.md R65; log 8). -/
abbrev Memory := List Host.Cell

/-- One command on the host port: CMD beside DATA_IN (30_encoding.md R82, 20_memory.md R64). -/
structure Command where
  cmd : Word32
  dataIn : FxWord
deriving DecidableEq, Repr

/-- What the host does at the core's port next (20_memory.md R63, R64; 70_reset_and_hazards.md R161). -/
inductive HostEvent
  /-- CMD_VALID is asserted with this command. -/
  | command (c : Command)
  /-- RST_N falls between two operations. -/
  | rstLow
  /-- RST_N rises. -/
  | rstHigh
  /-- RST_N falls while the core performs this command, which is abandoned. -/
  | commandCut (c : Command)
deriving DecidableEq, Repr

/-- The host side of the core (20_memory.md R63). -/
structure HostPort where
  /-- The level of RST_N, the active-low reset input. -/
  rstN : Bool
  /-- The level of CMD_DONE. -/
  cmdDone : Bool
  /-- The MODEL's own (log 2): the events the host still has to present, the next one first. -/
  events : List HostEvent
deriving DecidableEq, Repr

/-- The remote end's answer to one exchange (00_scope.md R18, 42_link_write.md R123). -/
inductive RemoteAnswer
  /-- The exchange completed and the remote end sent these bytes. -/
  | complete (rx : List Byte)
  /-- LINK_ABORT was asserted while LINK_CS_N was 0. -/
  | abort
deriving DecidableEq, Repr

/-- One change of level that the core drives on the link (20_memory.md R63; 42_link_write.md R123, R124, R127). -/
inductive LinkEvent
  | csN (level : Bool)
  | sclk (level : Bool)
  | mosi (level : Bool)
  | wstb (level : Bool)
  | wdo (word : Word32)
deriving DecidableEq, Repr

/-- The link side of the core (20_memory.md R63). -/
structure LinkPort where
  /-- The level of LINK_CS_N, the active-low framing signal. -/
  csN : Bool
  /-- The level of LINK_SCLK. -/
  sclk : Bool
  /-- The level of LINK_MOSI. -/
  mosi : Bool
  /-- The level of LINK_WSTB. -/
  wstb : Bool
  /-- The level of LINK_WDO. -/
  wdo : Word32
  /-- The MODEL's own (log 3): the remote end's answers still to come, the next one first. -/
  answers : List RemoteAnswer
  /-- The MODEL's own (log 3): how many exchanges were made, the index of the remote end's free values. -/
  exchanges : Nat
  /-- The MODEL's own (log 9): what the core drove in each exchange, oldest first (00_scope.md R16). -/
  frames : List (List LinkEvent)
deriving DecidableEq, Repr

/-- The machine: its parameters, its two sides, and its registers and packet spaces (10_state.md R24 to R59). -/
structure State where
  /-- The parameters of 00_scope.md R7; no step changes them (log 1). -/
  cfg : Params
  /-- The host side. -/
  host : HostPort
  /-- The link side. -/
  link : LinkPort
  /-- CORE_MODE (R24). -/
  coreMode : CoreMode
  /-- ERR, U32 (R25). -/
  err : Word32
  /-- LINK_ENABLE (R26). -/
  linkEnable : Bool
  /-- LINK_RESET (R27). -/
  linkReset : Bool
  /-- LINK_STATUS (R28). -/
  linkStatus : Bool
  /-- HS_STATE (R29). -/
  hsState : HsState
  /-- HW_RESET_IN (R30). -/
  hwResetIn : Bool
  /-- HW_RESET_OUT (R31), the level of the pin REMOTE_RESET. -/
  hwResetOut : Bool
  /-- LAST_RX_TAG, U32 (R32). -/
  lastRxTag : Word32
  /-- ATTEMPT_COUNT, U32 (R33). -/
  attemptCount : Word32
  /-- DT, FX (R34). -/
  dt : FxWord
  /-- RECIP_DT, FX (R34). -/
  recipDt : FxWord
  /-- OLD_PERIOD, S32 (R34). -/
  oldPeriod : Word32
  /-- PREV_RESET (R39). -/
  prevReset : Bool
  /-- RX_FRESH (R39). -/
  rxFresh : Bool
  /-- SETPOINT[0..N-1], U32 (R35). -/
  setpoint : List Word32
  /-- PV[0..M-1], U32 (R36). -/
  pv : List Word32
  /-- DOUT[0..K-1] (R37). -/
  dout : List Bool
  /-- DIN[0..K-1] (R38). -/
  din : List Bool
  /-- DIN_NOT[0..K-1] (R38). -/
  dinNot : List Bool
  /-- TXBUF (R40). -/
  txbuf : Memory
  /-- RXBUF (R40). -/
  rxbuf : Memory
  /-- DATA_OUT (R41). -/
  dataOut : FxWord
  /-- ax[0..J-1] (R42 to R59). -/
  axes : List Axis
deriving DecidableEq, Repr

/-- The host side right after reset (70_reset_and_hazards.md R162), with no event to come (log 2). -/
def HostPort.reset : HostPort where
  rstN := true
  cmdDone := false
  events := []

/-- The link side right after reset (70_reset_and_hazards.md R162), with no answer to come (log 3). -/
def LinkPort.reset : LinkPort where
  csN := true
  sclk := false
  mosi := false
  wstb := false
  wdo := 0
  answers := []
  exchanges := 0
  frames := []

/-- A core with these parameters right after reset: the table of 10_state.md R62. -/
def State.initial (p : Params) : State where
  cfg := p
  host := HostPort.reset
  link := LinkPort.reset
  coreMode := .config
  err := 0
  linkEnable := false
  linkReset := false
  linkStatus := false
  hsState := .disabled
  hwResetIn := false
  hwResetOut := false
  lastRxTag := 0
  attemptCount := 0
  dt := 0
  recipDt := 0
  oldPeriod := 0
  prevReset := false
  rxFresh := false
  setpoint := List.replicate p.N 0
  pv := List.replicate p.M 0
  dout := List.replicate p.K false
  din := List.replicate p.K false
  dinNot := List.replicate p.K true
  txbuf := []
  rxbuf := []
  dataOut := 0
  axes := List.replicate p.J Axis.reset

/-- The machine right after reset (10_state.md R62), built for the parameters of 95_test_vectors.md (log 1). -/
def State.reset : State := State.initial Params.example95

end Sys2Proof.Machine
end

