-- ==== Sys2Proof/Machine/Flags.lean ====
section
/-! DEFINITION. The flags of the core (spec/10_state.md R60): the ERR bits (R25, spec/60_exceptions.md R145, R147), the
codes of CORE_MODE and HS_STATE (spec/30_encoding.md R98), and the rising edge of LINK_RESET. -/

namespace Sys2Proof.Machine

/-- The code of an error, its ERR bit number (60_exceptions.md R145). -/
def errCode : ErrCause → Nat
  | .cfgErr => 0
  | .illegalCmd => 1
  | .badAddr => 2
  | .roWrite => 3
  | .cfgLocked => 4
  | .notRun => 5
  | .periodErr => 6
  | .estop => 7
  | .badTag => 8
  | .xferFail => 9

/-- The bits of ERR that exist, 9:0 (10_state.md R25). -/
def errMask : Word32 := 0x3FF

/-- ERR with the bit of this cause set (60_exceptions.md R147). -/
def errSet (c : ErrCause) (err : Word32) : Word32 := err ||| (1#32 <<< errCode c)

/-- ERR after a W1C write: ERR & ~D[31:0] & 0x3FF (44_host_ops.md R137). -/
def errClear (d : FxWord) (err : Word32) : Word32 := err &&& ~~~(d.setWidth 32) &&& errMask

/-- ERR as it reads: bits 31:10 read 0 (10_state.md R25; log 13). -/
def errRead (err : Word32) : Word32 := err &&& errMask

/-- CORE_MODE as it reads: bit 0 is 1 in RUN mode, bit 1 reads 0 (10_state.md R24; log 12). -/
def coreModeCode : CoreMode → BitVec 2
  | .config => 0
  | .run => 1

/-- HS_STATE as it reads (10_state.md R29). -/
def hsStateCode : HsState → BitVec 2
  | .disabled => 0
  | .armed => 1
  | .active => 2
  | .fault => 3

/-- `edge`: LINK_RESET is 1 and PREV_RESET is 0 (42_link_write.md R120). -/
def resetEdge (s : State) : Bool := s.linkReset && !s.prevReset

end Sys2Proof.Machine
end

