-- ==== Sys2Proof/Machine/FixedPoint.lean ====
section
/-! DEFINITION. The fixed-point and integer arithmetic of spec/40_fixed_point.md (R101 to R106) in the profile FX128.
Operands and results are mathematical integers, the raw patterns of FX values; only the final `fxSat` limits them. -/

namespace Sys2Proof.Machine

/-- FX_F, the fraction bits of the profile FX128 (00_scope.md R12). -/
def fxFrac : Nat := 64

/-- FX_W, the word width of the profile FX128 (00_scope.md R12). -/
def fxWidth : Nat := 128

/-- FX_ONE = 2^FX_F (R101). -/
def fxOne : Int := 2 ^ fxFrac

/-- FX_HALF = 2^(FX_F-1) (R101). -/
def fxHalf : Int := 2 ^ (fxFrac - 1)

/-- FX_MAX = 2^(FX_W-1) - 1 (R101). -/
def fxMax : Int := 2 ^ (fxWidth - 1) - 1

/-- FX_MIN = -2^(FX_W-1) (R101). -/
def fxMin : Int := -2 ^ (fxWidth - 1)

/-- EPS_RAW = ceil(1e-20 * 2^FX_F), 1 in this profile (R106 (d)). -/
def epsRaw : Nat := (2 ^ fxFrac + 10 ^ 20 - 1) / 10 ^ 20

/-- The saturation of R101. -/
def fxSat (x : Int) : Int := if x < fxMin then fxMin else if x > fxMax then fxMax else x

/-- The truncating division of R102: sign(a) * sign(b) * floor(|a| / |b|). -/
def tdiv (a b : Int) : Int := a.sign * b.sign * ((a.natAbs / b.natAbs : Nat) : Int)

/-- fx_add (R103). -/
def fxAdd (a b : Int) : Int := fxSat (a + b)

/-- fx_sub (R103). -/
def fxSub (a b : Int) : Int := fxSat (a - b)

/-- fx_neg (R103). -/
def fxNeg (a : Int) : Int := fxSat (-a)

/-- fx_abs (R103). -/
def fxAbs (a : Int) : Int := fxSat (a.natAbs : Int)

/-- fx_mul (R104): the exact product, truncated toward zero to FX_F fraction bits, then saturated. -/
def fxMul (a b : Int) : Int := fxSat (tdiv (a * b) fxOne)

/-- fx_div (R105); a zero divisor, which no rule reaches, is defined there for totality. -/
def fxDiv (a b : Int) : Int :=
  if b = 0 then (if a = 0 then 0 else if a > 0 then fxMax else fxMin)
  else fxSat (tdiv (a * fxOne) b)

/-- The integer of an FX register (00_scope.md R12: the raw pattern as a signed integer). -/
def fxVal (w : FxWord) : Int := w.toInt

/-- The FX register that holds an integer of the FX range. -/
def fxWord (x : Int) : FxWord := BitVec.ofInt 128 x

/-- wrap_32 (00_scope.md R10; R106 (a)). -/
def wrap32 (x : Int) : Word32 := BitVec.ofInt 32 x

/-- wrap_64 (00_scope.md R10; R106 (a)). -/
def wrap64 (x : Int) : BitVec 64 := BitVec.ofInt 64 x

/-- The FX raw value of the rational literal num / den, rounded toward zero (R106 (c)). -/
def fxLiteral (num : Int) (den : Int) : Int := tdiv (num * fxOne) den

/-- guard(s) of 43_feedback_read.md R130: FX_ONE for a scale below the epsilon, else the scale. -/
def scaleGuard (s : Int) : Int := if s.natAbs < epsRaw then fxOne else s

end Sys2Proof.Machine
end

