-- ==== Sys2Proof/Machine/Operands.lean ====
section
/-! DEFINITION. The operand forms: the register map and its address encoding (spec/20_memory.md R66, spec/30_encoding.md
R89), the value and access types of the registers (spec/10_state.md R22, R23), the sizes and offsets of the packets
(spec/00_scope.md R9, spec/30_encoding.md R90, R92) and the encodings of the packet fields (R94 to R97). -/

namespace Sys2Proof.Machine

/-! ## Register addresses -/

/-- The address of a global register (10_state.md R24 to R39). -/
def globalAddress : GlobalReg → Nat
  | .coreMode => 0x0000
  | .err => 0x0001
  | .linkEnable => 0x0002
  | .linkReset => 0x0003
  | .linkStatus => 0x0004
  | .hsState => 0x0005
  | .hwResetIn => 0x0006
  | .hwResetOut => 0x0007
  | .lastRxTag => 0x0008
  | .attemptCount => 0x0009
  | .dt => 0x000A
  | .recipDt => 0x000B
  | .oldPeriod => 0x000C
  | .prevReset => 0x000D
  | .rxFresh => 0x000E

/-- The global register at this address (20_memory.md R66). -/
def globalAt : Nat → Option GlobalReg
  | 0x0000 => some .coreMode
  | 0x0001 => some .err
  | 0x0002 => some .linkEnable
  | 0x0003 => some .linkReset
  | 0x0004 => some .linkStatus
  | 0x0005 => some .hsState
  | 0x0006 => some .hwResetIn
  | 0x0007 => some .hwResetOut
  | 0x0008 => some .lastRxTag
  | 0x0009 => some .attemptCount
  | 0x000A => some .dt
  | 0x000B => some .recipDt
  | 0x000C => some .oldPeriod
  | 0x000D => some .prevReset
  | 0x000E => some .rxFresh
  | _ => none

/-- The offset of an axis register in its bank (10_state.md R42 to R59). -/
def axisOffset : AxisReg → Nat
  | .mode => 0x00
  | .fbType => 0x01
  | .enable => 0x02
  | .scale => 0x03
  | .pgain => 0x04
  | .ff1gain => 0x05
  | .deadband => 0x06
  | .maxvel => 0x07
  | .maxaccel => 0x08
  | .posCmd => 0x09
  | .velCmd => 0x0A
  | .posFb => 0x0B
  | .count => 0x0C
  | .freqCmd => 0x0D
  | .scaleRecip => 0x0E
  | .oldScale => 0x0F
  | .prevCmd => 0x10
  | .oldCount => 0x11

/-- The axis register at this offset of a bank; offsets 0x12 to 0x1F are unmapped (10_state.md, section 4). -/
def axisRegAt : Nat → Option AxisReg
  | 0x00 => some .mode
  | 0x01 => some .fbType
  | 0x02 => some .enable
  | 0x03 => some .scale
  | 0x04 => some .pgain
  | 0x05 => some .ff1gain
  | 0x06 => some .deadband
  | 0x07 => some .maxvel
  | 0x08 => some .maxaccel
  | 0x09 => some .posCmd
  | 0x0A => some .velCmd
  | 0x0B => some .posFb
  | 0x0C => some .count
  | 0x0D => some .freqCmd
  | 0x0E => some .scaleRecip
  | 0x0F => some .oldScale
  | 0x10 => some .prevCmd
  | 0x11 => some .oldCount
  | _ => none

/-- The address of a register (30_encoding.md R89). -/
def regAddress : Reg → RegAddr
  | .global r => BitVec.ofNat 16 (globalAddress r)
  | .setpoint n => BitVec.ofNat 16 (0x0100 + n)
  | .pv m => BitVec.ofNat 16 (0x0200 + m)
  | .dout k => BitVec.ofNat 16 (0x0300 + k)
  | .din k => BitVec.ofNat 16 (0x0400 + k)
  | .dinNot k => BitVec.ofNat 16 (0x0500 + k)
  | .axis j r => BitVec.ofNat 16 (0x1000 + 0x20 * j + axisOffset r)

/-- The channel register at index `i` of a window of `count` registers. -/
def channelAt (count i : Nat) (mk : Nat → Reg) : Option Reg := if i < count then some (mk i) else none

/-- The register at an address, none where the address is unmapped (20_memory.md R66). -/
def regAt (p : Params) (addr : RegAddr) : Option Reg :=
  let a := addr.toNat
  if a < 0x0100 then (globalAt a).map .global
  else if a < 0x0200 then channelAt p.N (a - 0x0100) .setpoint
  else if a < 0x0300 then channelAt p.M (a - 0x0200) .pv
  else if a < 0x0400 then channelAt p.K (a - 0x0300) .dout
  else if a < 0x0500 then channelAt p.K (a - 0x0400) .din
  else if a < 0x0600 then channelAt p.K (a - 0x0500) .dinNot
  else if a < 0x1000 then none
  else if (a - 0x1000) / 0x20 < p.J then
    (axisRegAt ((a - 0x1000) % 0x20)).map (.axis ((a - 0x1000) / 0x20))
  else none

/-! ## Value types and access types -/

/-- The value types of 10_state.md R22. -/
inductive RegType
  | bool | u2 | u8 | u32 | s32 | s64 | fx
deriving DecidableEq, Repr

/-- The access types of 10_state.md R23. -/
inductive Access
  | rw | ro | rwc | w1c
deriving DecidableEq, Repr

/-- The value type of a global register (10_state.md R24 to R39). -/
def globalType : GlobalReg → RegType
  | .coreMode => .u2
  | .err => .u32
  | .linkEnable => .bool
  | .linkReset => .bool
  | .linkStatus => .bool
  | .hsState => .u2
  | .hwResetIn => .bool
  | .hwResetOut => .bool
  | .lastRxTag => .u32
  | .attemptCount => .u32
  | .dt => .fx
  | .recipDt => .fx
  | .oldPeriod => .s32
  | .prevReset => .bool
  | .rxFresh => .bool

/-- The value type of an axis register (10_state.md R42 to R59). -/
def axisType : AxisReg → RegType
  | .mode => .u8
  | .fbType => .u8
  | .enable => .bool
  | .scale => .fx
  | .pgain => .fx
  | .ff1gain => .fx
  | .deadband => .fx
  | .maxvel => .fx
  | .maxaccel => .fx
  | .posCmd => .fx
  | .velCmd => .fx
  | .posFb => .fx
  | .count => .s64
  | .freqCmd => .fx
  | .scaleRecip => .fx
  | .oldScale => .fx
  | .prevCmd => .fx
  | .oldCount => .s32

/-- The value type of a register. -/
def regType : Reg → RegType
  | .global r => globalType r
  | .setpoint _ => .u32
  | .pv _ => .u32
  | .dout _ => .bool
  | .din _ => .bool
  | .dinNot _ => .bool
  | .axis _ r => axisType r

/-- The access type of a global register (10_state.md R24 to R39). -/
def globalAccess : GlobalReg → Access
  | .coreMode => .ro
  | .err => .w1c
  | .linkEnable => .rw
  | .linkReset => .rw
  | .linkStatus => .ro
  | .hsState => .ro
  | .hwResetIn => .rw
  | .hwResetOut => .ro
  | .lastRxTag => .ro
  | .attemptCount => .ro
  | .dt => .ro
  | .recipDt => .ro
  | .oldPeriod => .ro
  | .prevReset => .ro
  | .rxFresh => .ro

/-- The access type of an axis register (10_state.md R42 to R59). -/
def axisAccess : AxisReg → Access
  | .mode => .rwc
  | .fbType => .rwc
  | .enable => .rw
  | .scale => .rw
  | .pgain => .rw
  | .ff1gain => .rw
  | .deadband => .rw
  | .maxvel => .rw
  | .maxaccel => .rw
  | .posCmd => .rw
  | .velCmd => .rw
  | .posFb => .ro
  | .count => .ro
  | .freqCmd => .ro
  | .scaleRecip => .ro
  | .oldScale => .ro
  | .prevCmd => .ro
  | .oldCount => .ro

/-- The access type of a register. -/
def regAccess : Reg → Access
  | .global r => globalAccess r
  | .setpoint _ => .rw
  | .pv _ => .ro
  | .dout _ => .rw
  | .din _ => .ro
  | .dinNot _ => .ro
  | .axis _ r => axisAccess r

/-- The DATA_OUT word of a BOOL (10_state.md R22). -/
def boolWord (b : Bool) : FxWord := if b then 1 else 0

/-- The DATA_OUT word of a U2, U8 or U32: zero-extended (10_state.md R22). -/
def unsignedWord {w : Nat} (v : BitVec w) : FxWord := v.setWidth 128

/-- The DATA_OUT word of an S32 or S64: sign-extended (10_state.md R22). -/
def signedWord {w : Nat} (v : BitVec w) : FxWord := v.signExtend 128

/-- What a register of this type reads as after REG_WRITE stored the operand in it (10_state.md R22). -/
def typeImage : RegType → FxWord → FxWord
  | .bool, d => boolWord (d.getLsbD 0)
  | .u2, d => unsignedWord (d.setWidth 2)
  | .u8, d => unsignedWord (d.setWidth 8)
  | .u32, d => unsignedWord (d.setWidth 32)
  | .s32, d => signedWord (d.setWidth 32)
  | .s64, d => signedWord (d.setWidth 64)
  | .fx, d => d

/-! ## Packet sizes and offsets -/

/-- ceil(a / b) (00_scope.md R10). -/
def ceilDiv (a b : Nat) : Nat := (a + b - 1) / b

/-- OFF_FW, the frequency words (30_encoding.md R90). -/
def offFw : Nat := 4

/-- OFF_EN, the joint-enable bitfield (30_encoding.md R90). -/
def offEn (p : Params) : Nat := 4 + 4 * p.J

/-- OFF_SP, the setpoints (30_encoding.md R90). -/
def offSp (p : Params) : Nat := offEn p + ceilDiv p.J 8

/-- OFF_DO, the digital-output bitfield (30_encoding.md R90). -/
def offDo (p : Params) : Nat := offSp p + 4 * p.N

/-- L_TX, the outbound packet's size (00_scope.md R9). -/
def txLen (p : Params) : Nat := 4 + 4 * p.J + ceilDiv p.J 8 + 4 * p.N + ceilDiv p.K 8

/-- OFF_RAW, the raw feedback counters (30_encoding.md R92). -/
def offRaw : Nat := 4

/-- OFF_PV, the process values (30_encoding.md R92). -/
def offPv (p : Params) : Nat := 4 + 4 * p.J

/-- OFF_DI, the digital-input bitfield (30_encoding.md R92). -/
def offDi (p : Params) : Nat := offPv p + 4 * p.M

/-- L_RX, the inbound packet's size (00_scope.md R9). -/
def rxLen (p : Params) : Nat := 4 + 4 * p.J + 4 * p.M + ceilDiv p.K 8

/-- L, the exchange length (00_scope.md R9). -/
def exchangeLen (p : Params) : Nat := max (txLen p) (rxLen p)

/-! ## Packet fields -/

/-- FW(f), clamped to the signed 32-bit range (30_encoding.md R94). -/
def freqRatio (base : Nat) (f : Int) : Int :=
  max (-2 ^ 31) (min (2 ^ 31 - 1) (tdiv (f * 2 ^ 32) ((base : Int) * 2 ^ fxFrac)))

/-- The frequency word u_32(FW(f)) of a FREQ_CMD register (30_encoding.md R94). -/
def freqWord (p : Params) (freqCmd : FxWord) : Word32 := BitVec.ofInt 32 (freqRatio p.baseFreqHz (fxVal freqCmd))

/-- Byte `b` of the bitfield of these items: item i is bit (i mod 8) of byte (i div 8); bits above the item count
are 0 (20_memory.md R71, 30_encoding.md R95, R96). -/
def bitfieldByte (items : List Bool) (b : Nat) : Byte :=
  BitVec.ofNat 8 (((List.range 8).map fun i => if items.getD (8 * b + i) false then 2 ^ i else 0).sum)

/-- All bytes of the bitfield of these items (20_memory.md R71). -/
def bitfield (items : List Bool) : List Byte := (List.range (ceilDiv items.length 8)).map (bitfieldByte items)

end Sys2Proof.Machine
end

