-- ==== Sys2Proof/Machine/Ops.lean ====
section
/-! DEFINITION. The named operations over the packet spaces (spec/00_scope.md R11, spec/20_memory.md R68), over the
host registers, raising an error (spec/60_exceptions.md R147: the one thing an error does, there being no traps, R151),
and reset (spec/70_reset_and_hazards.md R161, R162). -/

namespace Sys2Proof.Machine

/-! ## The packet spaces -/

/-- The byte at an offset; one that is not listed is 0x00 (10_state.md R62; log 8). -/
def memReadByte : Memory → Nat → Byte
  | [], _ => 0
  | (k, v) :: m, a => if k = a then v else memReadByte m a

/-- The packet space with this byte at this offset, in canonical form again (log 8). -/
def memWriteByte : Memory → Nat → Byte → Memory
  | [], a, b => if b = 0 then [] else [(a, b)]
  | (k, v) :: m, a, b =>
    if a < k then (if b = 0 then (k, v) :: m else (a, b) :: (k, v) :: m)
    else if a = k then (if b = 0 then m else (a, b) :: m)
    else (k, v) :: memWriteByte m a b

/-- MemRead(addr, n): n bytes assembled little-endian (00_scope.md R11, 20_memory.md R68). -/
def memRead (m : Memory) : Nat → Nat → Nat
  | _, 0 => 0
  | a, n + 1 => (memReadByte m a).toNat + 256 * memRead m (a + 1) n

/-- MemWrite(addr, n, v): the n-byte little-endian form of v (00_scope.md R11, 20_memory.md R68). -/
def memWrite (m : Memory) : Nat → Nat → Nat → Memory
  | _, 0, _ => m
  | a, n + 1, v => memWrite (memWriteByte m a (BitVec.ofNat 8 v)) (a + 1) n (v / 256)

/-- MemWrite of 4-byte words one after another from an offset. -/
def memWriteWords (m : Memory) : Nat → List Word32 → Memory
  | _, [] => m
  | a, w :: ws => memWriteWords (memWrite m a 4 w.toNat) (a + 4) ws

/-- MemWrite of bytes one after another from an offset. -/
def memWriteBytes (m : Memory) : Nat → List Byte → Memory
  | _, [] => m
  | a, b :: bs => memWriteBytes (memWriteByte m a b) (a + 1) bs

/-- The first `n` bytes of a packet space, in offset order. -/
def memBytes (m : Memory) (n : Nat) : List Byte := (List.range n).map (memReadByte m)

/-- The canonical form: offsets strictly rising, no listed byte 0x00 (log 8). -/
def Memory.wf (m : Memory) : Bool := decide (m.Pairwise fun x y => x.1 < y.1) && m.all fun c => c.2 != 0

/-- Every listed offset is one of the L bytes of the packet space (20_memory.md R65, R67). -/
def Memory.within (m : Memory) (n : Nat) : Bool := m.all fun c => decide (c.1 < n)

/-! ## Errors -/

/-- `raise <Error>(info)`: it sets the error's bit of ERR and does nothing else (60_exceptions.md R147, 00_scope.md
R11). No state is saved, no mode changes, control does not move (R151); so there is no return from it (R152). -/
def raise (c : ErrCause) (s : State) : State := { s with err := errSet c s.err }

/-! ## Reset and the host port -/

/-- What a falling RST_N does, between two operations or in the middle of one: every register takes its value of
10_state.md R62 and every pin its level of 70_reset_and_hazards.md R162. The parameters and what the host and the
remote end still have to present are not the core's state and stay (log 4). -/
def enterReset (s : State) : State :=
  { State.initial s.cfg with
    host := { HostPort.reset with rstN := false, events := s.host.events }
    link := { LinkPort.reset with
      answers := s.link.answers
      exchanges := s.link.exchanges
      frames := s.link.frames } }

/-- What a rising RST_N does: the core is in CONFIG mode as reset left it and waits for its first command
(70_reset_and_hazards.md R161). -/
def leaveReset (s : State) : State := { s with host := { s.host with rstN := true } }

/-- The state with the next host event taken off the host's list. -/
def takeEvent (s : State) : State := { s with host := { s.host with events := s.host.events.tail } }

/-- CMD_DONE is asserted: every state change of the operation is complete (20_memory.md R64; log 5). -/
def completeCommand (s : State) : State := { s with host := { s.host with cmdDone := true } }

/-- The level of the pin REMOTE_RESET (10_state.md R31, 20_memory.md R63). -/
def remoteResetPin (s : State) : Bool := s.hwResetOut

/-- Apply a state change after an outcome, where it is a next state. -/
def thenState (o : Host.Outcome State Fault Refusal) (f : State → State) : Host.Outcome State Fault Refusal :=
  match o with
  | .next s => .next (f s)
  | .fault r => .fault r
  | .refused r => .refused r

/-! ## Host registers -/

/-- The value of a global register, extended to FX_W bits (10_state.md R22, R24 to R39). -/
def readGlobal (s : State) : GlobalReg → FxWord
  | .coreMode => unsignedWord (coreModeCode s.coreMode)
  | .err => unsignedWord (errRead s.err)
  | .linkEnable => boolWord s.linkEnable
  | .linkReset => boolWord s.linkReset
  | .linkStatus => boolWord s.linkStatus
  | .hsState => unsignedWord (hsStateCode s.hsState)
  | .hwResetIn => boolWord s.hwResetIn
  | .hwResetOut => boolWord s.hwResetOut
  | .lastRxTag => unsignedWord s.lastRxTag
  | .attemptCount => unsignedWord s.attemptCount
  | .dt => s.dt
  | .recipDt => s.recipDt
  | .oldPeriod => signedWord s.oldPeriod
  | .prevReset => boolWord s.prevReset
  | .rxFresh => boolWord s.rxFresh

/-- The value of an axis register, extended to FX_W bits (10_state.md R22, R42 to R59). -/
def readAxis (a : Axis) : AxisReg → FxWord
  | .mode => unsignedWord a.mode
  | .fbType => unsignedWord a.fbType
  | .enable => boolWord a.enable
  | .scale => a.scale
  | .pgain => a.pgain
  | .ff1gain => a.ff1gain
  | .deadband => a.deadband
  | .maxvel => a.maxvel
  | .maxaccel => a.maxaccel
  | .posCmd => a.posCmd
  | .velCmd => a.velCmd
  | .posFb => a.posFb
  | .count => signedWord a.count
  | .freqCmd => a.freqCmd
  | .scaleRecip => a.scaleRecip
  | .oldScale => a.oldScale
  | .prevCmd => a.prevCmd
  | .oldCount => signedWord a.oldCount

/-- The value of a register, extended to FX_W bits (10_state.md R22; 44_host_ops.md R138). An index beyond the
state's lists, which `State.Inv` excludes, reads as the reset value (log 15). -/
def readReg (s : State) : Reg → FxWord
  | .global r => readGlobal s r
  | .setpoint n => unsignedWord (s.setpoint.getD n 0)
  | .pv m => unsignedWord (s.pv.getD m 0)
  | .dout k => boolWord (s.dout.getD k false)
  | .din k => boolWord (s.din.getD k false)
  | .dinNot k => boolWord (s.dinNot.getD k true)
  | .axis j r => readAxis (s.axes.getD j Axis.reset) r

/-- A global register written with the operand truncated to its width (10_state.md R22); an RO register, and ERR,
which has its own W1C write, keep their value. -/
def writeGlobal (s : State) (d : FxWord) : GlobalReg → State
  | .coreMode => s
  | .err => s
  | .linkEnable => { s with linkEnable := d.getLsbD 0 }
  | .linkReset => { s with linkReset := d.getLsbD 0 }
  | .linkStatus => s
  | .hsState => s
  | .hwResetIn => { s with hwResetIn := d.getLsbD 0 }
  | .hwResetOut => s
  | .lastRxTag => s
  | .attemptCount => s
  | .dt => s
  | .recipDt => s
  | .oldPeriod => s
  | .prevReset => s
  | .rxFresh => s

/-- An axis register written with the operand truncated to its width (10_state.md R22); an RO register keeps its
value. -/
def writeAxis (a : Axis) (d : FxWord) : AxisReg → Axis
  | .mode => { a with mode := d.setWidth 8 }
  | .fbType => { a with fbType := d.setWidth 8 }
  | .enable => { a with enable := d.getLsbD 0 }
  | .scale => { a with scale := d }
  | .pgain => { a with pgain := d }
  | .ff1gain => { a with ff1gain := d }
  | .deadband => { a with deadband := d }
  | .maxvel => { a with maxvel := d }
  | .maxaccel => { a with maxaccel := d }
  | .posCmd => { a with posCmd := d }
  | .velCmd => { a with velCmd := d }
  | .posFb => a
  | .count => a
  | .freqCmd => a
  | .scaleRecip => a
  | .oldScale => a
  | .prevCmd => a
  | .oldCount => a

/-- A register written with the operand truncated to its width (10_state.md R22; 44_host_ops.md R137). -/
def writeReg (s : State) (d : FxWord) : Reg → State
  | .global r => writeGlobal s d r
  | .setpoint n => { s with setpoint := s.setpoint.set n (d.setWidth 32) }
  | .pv _ => s
  | .dout k => { s with dout := s.dout.set k (d.getLsbD 0) }
  | .din _ => s
  | .dinNot _ => s
  | .axis j r => { s with axes := s.axes.modify j fun a => writeAxis a d r }

/-- ERR written W1C (10_state.md R23; 44_host_ops.md R137). -/
def writeErr (s : State) (d : FxWord) : State := { s with err := errClear d s.err }

end Sys2Proof.Machine
end

