-- ==== Sys2Proof/Machine/CmdGen.lean ====
section
/-! DEFINITION. CMDGEN, the frequency command generator (spec/41_cmdgen.md): the cached tick constants of R107 and the
axis step S1 to S8 of R108 to R116. -/

namespace Sys2Proof.Machine

/-- MF_HW = BASE_FREQ_HZ * FX_ONE / 2 (R110). -/
def mfHw (p : Params) : Int := (p.baseFreqHz : Int) * fxOne / 2

/-- S1, scale change (R108). -/
def scaleChange (a : Axis) : Axis :=
  if a.scale ≠ a.oldScale then
    let scale := fxWord (scaleGuard (fxVal a.scale))
    { a with scale := scale, oldScale := scale, scaleRecip := fxWord (fxDiv fxOne (fxVal scale)) }
  else a

/-- A tunable, 0 where it is negative (R109). -/
def nonNegative (w : FxWord) : FxWord := if fxVal w < 0 then 0 else w

/-- S2, non-negative tunables (R109). -/
def clampTunables (a : Axis) : Axis :=
  { a with pgain := nonNegative a.pgain, ff1gain := nonNegative a.ff1gain, deadband := nonNegative a.deadband }

/-- The two-way clamp of a user limit against a hardware ceiling (R110, R111): the limit written back, and the ceiling
that binds. -/
def twoWayClamp (limit : FxWord) (ceiling absScale : Int) : FxWord × Int :=
  if fxVal limit ≤ 0 then (0, ceiling)
  else if fxMul (fxVal limit) absScale > ceiling then (fxWord (fxDiv ceiling absScale), ceiling)
  else (limit, fxMul (fxVal limit) absScale)

/-- The effective gain: exactly 0 is "unset" and acts as 1.0 (R112). -/
def effectiveGain (w : FxWord) : Int := if fxVal w = 0 then fxOne else fxVal w

/-- The effective deadband: exactly 0 is "unset" and acts as one unit of resolution (R112). -/
def effectiveDeadband (a : Axis) : Int := if fxVal a.deadband = 0 then fxAbs (fxVal a.scaleRecip) else fxVal a.deadband

/-- The deadband law on an error (R112). -/
def deadbandLaw (db err : Int) : Int :=
  if err > db then fxSub err db
  else if err < fxNeg db then fxAdd err db
  else 0

/-- The command derivative of R112. -/
def commandDerivative (recipDt : Int) (a : Axis) : Int := fxMul (fxSub (fxVal a.posCmd) (fxVal a.prevCmd)) recipDt

/-- S5, the position-mode velocity (R112). -/
def positionVelocity (recipDt : Int) (a : Axis) : Int :=
  fxAdd
    (fxMul (effectiveGain a.pgain)
      (deadbandLaw (effectiveDeadband a) (fxSub (fxVal a.posCmd) (fxVal a.posFb))))
    (fxMul (commandDerivative recipDt a) (effectiveGain a.ff1gain))

/-- The velocity S5 gives: the position law for MODE 0 (R112), VEL_CMD itself for MODE 1 (R113). -/
def controlVelocity (recipDt : Int) (a : Axis) : Int :=
  if a.mode = 0 then positionVelocity recipDt a else fxVal a.velCmd

/-- PREV_CMD after S5: sampled in Position mode only (R112, R113). -/
def sampleCommand (a : Axis) : Axis := if a.mode = 0 then { a with prevCmd := a.posCmd } else a

/-- S6, conversion to frequency and clamp to the ceiling (R114). -/
def targetFrequency (mf : Int) (vel scale : Int) : Int :=
  if fxMul vel scale > mf then mf
  else if fxMul vel scale < fxNeg mf then fxNeg mf
  else fxMul vel scale

/-- S7, the slew limit: from the previous frequency toward the target by at most dv (R115). -/
def slewLimit (dv f tgt : Int) : Int :=
  if tgt > fxAdd f dv then fxAdd f dv
  else if tgt < fxSub f dv then fxSub f dv
  else tgt

/-- S8, the enable override and the published frequency (R116). -/
def publishFrequency (nf : Int) (a : Axis) : Axis :=
  { a with freqCmd := if a.enable then fxWord nf else 0 }

/-- The axis after S1 and S2 (R108, R109). -/
def preparedAxis (a : Axis) : Axis := clampTunables (scaleChange a)

/-- abs_s of R108. -/
def absScale (a : Axis) : Int := fxAbs (fxVal (preparedAxis a).scale)

/-- S3: MAXVEL as written back, and the frequency ceiling mf (R110). -/
def velocityCeiling (mfHw : Int) (a : Axis) : FxWord × Int :=
  twoWayClamp (preparedAxis a).maxvel mfHw (absScale a)

/-- S4: MAXACCEL as written back, and the acceleration ceiling mac (R111). -/
def accelCeiling (mfHw recipDt : Int) (a : Axis) : FxWord × Int :=
  twoWayClamp (preparedAxis a).maxaccel (fxMul (velocityCeiling mfHw a).2 recipDt) (absScale a)

/-- The axis after S1 to S4, with every write-back. -/
def clampedAxis (mfHw recipDt : Int) (a : Axis) : Axis :=
  { preparedAxis a with maxvel := (velocityCeiling mfHw a).1, maxaccel := (accelCeiling mfHw recipDt a).1 }

/-- tgt of R114. -/
def axisTarget (mfHw recipDt : Int) (a : Axis) : Int :=
  let c := clampedAxis mfHw recipDt a
  targetFrequency (velocityCeiling mfHw a).2 (controlVelocity recipDt c) (fxVal c.scale)

/-- dv of R115. -/
def axisSlew (mfHw dt recipDt : Int) (a : Axis) : Int := fxMul (accelCeiling mfHw recipDt a).2 dt

/-- AxisStep(j): S1 to S8 on one axis (R107). -/
def axisStep (mfHw dt recipDt : Int) (a : Axis) : Axis :=
  publishFrequency
    (slewLimit (axisSlew mfHw dt recipDt a) (fxVal a.freqCmd) (axisTarget mfHw recipDt a))
    (sampleCommand (clampedAxis mfHw recipDt a))

/-- DT of a period in nanoseconds (R107). -/
def tickSeconds (period : Int) : Int := fxSat (tdiv (period * fxOne) 1000000000)

/-- The cached tick constants, recomputed "only when the supplied period changes" (R107). -/
def cacheTick (period : Word32) (s : State) : State :=
  if period = s.oldPeriod then s
  else
    { s with
      oldPeriod := period
      dt := fxWord (tickSeconds period.toInt)
      recipDt := fxWord (fxDiv fxOne (tickSeconds period.toInt)) }

/-- MODE is one of the two tags that S5 has a branch for (R112, R113). -/
def modeTagOk (a : Axis) : Bool := decide (a.mode.toNat ≤ 1)

/-- The loop over the axes j = 0 to J-1 (R107, R118). -/
def stepAxes (s : State) : State :=
  { s with axes := s.axes.map (axisStep (mfHw s.cfg) (fxVal s.dt) (fxVal s.recipDt)) }

/-- CMDGEN (R107). A MODE tag above 1 in RUN mode, which no run reaches, has no branch and faults (log 7). -/
def execCmdgen (period : Word32) (s : State) : Host.Outcome State Fault Refusal :=
  if s.coreMode = .config then .next (raise .notRun s)
  else if period.toInt ≤ 0 then .next (raise .periodErr s)
  else if s.axes.all modeTagOk then .next (stepAxes (cacheTick period s))
  else .fault .modeTagOutOfRange

end Sys2Proof.Machine
end

