-- ==== Sys2Proof/Machine/HostOps.lean ====
section
/-! DEFINITION. The host operations REG_WRITE, REG_READ, INIT and NOP (spec/44_host_ops.md R137 to R140). -/

namespace Sys2Proof.Machine

/-- REG_WRITE of the operand to a register that exists (R137): RO_WRITE, CFG_LOCKED, the W1C write of ERR, or the
write. -/
def writeMapped (r : Reg) (d : FxWord) (s : State) : State :=
  match regAccess r with
  | .ro => raise .roWrite s
  | .rwc => if s.coreMode = .run then raise .cfgLocked s else writeReg s d r
  | .w1c => writeErr s d
  | .rw => writeReg s d r

/-- REG_WRITE (R137). -/
def execRegWrite (addr : RegAddr) (data : FxWord) (s : State) : Host.Outcome State Fault Refusal :=
  match regAt s.cfg addr with
  | none => .next (raise .badAddr s)
  | some r => .next (writeMapped r data s)

/-- REG_READ (R138): the value goes to DATA_OUT; an unmapped address clears DATA_OUT and raises BAD_ADDR. -/
def execRegRead (addr : RegAddr) (s : State) : Host.Outcome State Fault Refusal :=
  match regAt s.cfg addr with
  | none => .next (raise .badAddr { s with dataOut := 0 })
  | some r => .next { s with dataOut := readReg s r }

/-- MODE and FB_TYPE of the axis are 0 or 1 (R139). -/
def axisTagsOk (a : Axis) : Bool := decide (a.mode.toNat ≤ 1) && decide (a.fbType.toNat ≤ 1)

/-- INIT (R139). -/
def execInit (s : State) : Host.Outcome State Fault Refusal :=
  if s.coreMode = .run then .next s
  else if s.axes.all axisTagsOk then .next { s with coreMode := .run }
  else .next (raise .cfgErr s)

/-- NOP (R140). -/
def execNop (s : State) : Host.Outcome State Fault Refusal := .next s

end Sys2Proof.Machine
end

