-- ==== Sys2Proof/Machine/LinkRead.lean ====
section
/-! DEFINITION. LINK_READ: the feedback decoder and the rollover-correcting accumulator (spec/43_feedback_read.md R130 to
R135, spec/30_encoding.md R92, R97). -/

namespace Sys2Proof.Machine

/-- The raw feedback counter of axis j in the inbound packet (R130, 30_encoding.md R92). -/
def rawCounter (s : State) (j : Nat) : Word32 := BitVec.ofNat 32 (memRead s.rxbuf (offRaw + 4 * j) 4)

/-- Process value m of the inbound packet (R134). -/
def rxProcessValue (s : State) (m : Nat) : Word32 := BitVec.ofNat 32 (memRead s.rxbuf (offPv s.cfg + 4 * m) 4)

/-- Digital input k of the inbound packet (R135, 30_encoding.md R97). -/
def rxInput (s : State) (k : Nat) : Bool := (memReadByte s.rxbuf (offDi s.cfg + k / 8)).getLsbD (k % 8)

/-- Absolute feedback: position = raw counter / scale, nothing accumulated (R131). -/
def decodeAbsolute (raw : Word32) (a : Axis) : Axis :=
  { a with posFb := fxWord (fxDiv (raw.toInt * fxOne) (scaleGuard (fxVal a.scale))) }

/-- `diff` of R132: wrap_32(raw - OLD_COUNT). -/
def countDiff (raw oldCount : Word32) : Word32 := wrap32 (raw.toInt - oldCount.toInt)

/-- COUNT after a decode: wrap_64(COUNT + diff) (R132). -/
def nextCount (raw : Word32) (a : Axis) : BitVec 64 := wrap64 (a.count.toInt + (countDiff raw a.oldCount).toInt)

/-- Incremental feedback: the accumulator and the position with the +0.5 bias (R132). -/
def decodeIncremental (raw : Word32) (a : Axis) : Axis :=
  { a with
    count := nextCount raw a
    oldCount := raw
    posFb := fxWord (fxDiv ((nextCount raw a).toInt * fxOne + fxHalf) (scaleGuard (fxVal a.scale))) }

/-- DecodeAxis by the axis's FB_TYPE (R130). -/
def decodeAxis (raw : Word32) (a : Axis) : Axis :=
  if a.fbType = 0 then decodeAbsolute raw a else decodeIncremental raw a

/-- FB_TYPE is one of the two tags that have a decode (R130, 92_eei_decisions.md D36). -/
def fbTypeTagOk (a : Axis) : Bool := decide (a.fbType.toNat ≤ 1)

/-- The decode of a fresh packet into every feedback register (R130). -/
def decodePacket (s : State) : State :=
  { s with
    axes := s.axes.mapIdx fun j a => decodeAxis (rawCounter s j) a
    pv := (List.range s.cfg.M).map (rxProcessValue s)
    din := (List.range s.cfg.K).map (rxInput s)
    dinNot := (List.range s.cfg.K).map fun k => !rxInput s k
    rxFresh := false }

/-- LINK_READ (R130). An FB_TYPE tag above 1 in RUN mode, which no run reaches, has no decode and faults (log 7). -/
def execLinkRead (s : State) : Host.Outcome State Fault Refusal :=
  if s.coreMode = .config then .next (raise .notRun s)
  else if !s.rxFresh then .next s
  else if s.axes.all fbTypeTagOk then .next (decodePacket s)
  else .fault .fbTypeTagOutOfRange

end Sys2Proof.Machine
end

