-- ==== Sys2Proof/Machine/Transport.lean ====
section
/-! DEFINITION. The link transport (spec/42_link_write.md R123, R124, R127; spec/20_memory.md R69, R70): what the core
drives on the link in one exchange, what it captures, and the remote end's answer (spec/00_scope.md R18). -/

namespace Sys2Proof.Machine

/-- The bits of a byte in the order they go on the serial line, most significant first (20_memory.md R69). -/
def serialBits (b : Byte) : List Bool := [7, 6, 5, 4, 3, 2, 1, 0].map b.getLsbD

/-- What the core drives for one bit: LINK_MOSI before the rising edge of LINK_SCLK, then the clock back to its idle
low (42_link_write.md R124). -/
def serialBitEvents (bit : Bool) : List LinkEvent := [.mosi bit, .sclk true, .sclk false]

/-- The byte the core assembles from the levels of LINK_MISO at eight rising edges, rx[i][b] for b from 7 down to 0
(42_link_write.md R124). -/
def serialAssemble (bits : List Bool) : Byte :=
  bits.foldl (fun acc bit => acc <<< 1 ||| (if bit then 1 else 0)) 0

/-- One 32-bit beat: the byte at the lowest offset in bits 7:0 (20_memory.md R70). -/
def beatWord (b0 b1 b2 b3 : Byte) : Word32 := b3 ++ b2 ++ b1 ++ b0

/-- The beats of a stream; offsets at and above its length are 0x00 (20_memory.md R70). -/
def streamBeats : List Byte → List Word32
  | [] => []
  | [b0] => [beatWord b0 0 0 0]
  | [b0, b1] => [beatWord b0 b1 0 0]
  | [b0, b1, b2] => [beatWord b0 b1 b2 0]
  | b0 :: b1 :: b2 :: b3 :: rest => beatWord b0 b1 b2 b3 :: streamBeats rest

/-- The four stream bytes of a beat, in offset order (20_memory.md R70). -/
def beatBytes (w : Word32) : List Byte :=
  [w.extractLsb' 0 8, w.extractLsb' 8 8, w.extractLsb' 16 8, w.extractLsb' 24 8]

/-- What the core drives for one beat: the word, then one pulse of LINK_WSTB (42_link_write.md R127). -/
def beatEvents (w : Word32) : List LinkEvent := [.wdo w, .wstb true, .wstb false]

/-- What the core drives between the edges of LINK_CS_N to send a stream (42_link_write.md R124, R127). -/
def streamEvents : Transport → List Byte → List LinkEvent
  | .byteSerial, tx => tx.flatMap fun b => (serialBits b).flatMap serialBitEvents
  | .wordParallel, tx => (streamBeats tx).flatMap beatEvents

/-- All that the core drives in one exchange: the framing signal low, the stream, the framing signal high
(42_link_write.md R123; log 14). -/
def frameEvents (t : Transport) (tx : List Byte) : List LinkEvent :=
  .csN false :: (streamEvents t tx ++ [.csN true])

/-- The inbound stream the core captures from a remote end that sends these bytes: bit by bit from LINK_MISO, or beat
by beat from LINK_WDI with the bytes past the stream discarded (42_link_write.md R124, R127; 20_memory.md R70). -/
def captureStream : Transport → List Byte → List Byte
  | .byteSerial, rx => rx.map fun b => serialAssemble (serialBits b)
  | .wordParallel, rx => ((streamBeats rx).flatMap beatBytes).take rx.length

/-- The `n` bytes of the remote end in the exchange of this index: those listed, and free bytes where the list is
shorter (00_scope.md R18; log 3). -/
def remoteStream (index n : Nat) (listed : List Byte) : List Byte :=
  (List.range n).map fun i => listed.getD i (Config.remoteByte index i)

/-- The remote end's answer to the next exchange of `n` bytes: the next of its list, or where the list is empty a free
one (00_scope.md R18; log 3). -/
def remoteAnswer (link : LinkPort) (n : Nat) : RemoteAnswer :=
  match link.answers with
  | [] =>
    if Config.remoteAborts link.exchanges then .abort else .complete (remoteStream link.exchanges n [])
  | .abort :: _ => .abort
  | .complete rx :: _ => .complete (remoteStream link.exchanges n rx)

/-- The link side after an exchange that sent these bytes: the framing signal is high again, the clock or the strobe
at its idle level, and the data line at a free level (42_link_write.md R123, R124, R127; log 6). -/
def linkAfterExchange (t : Transport) (tx : List Byte) (link : LinkPort) : LinkPort where
  csN := true
  sclk := false
  mosi := match t with
    | .byteSerial => Config.idleMosi link.exchanges
    | .wordParallel => link.mosi
  wstb := false
  wdo := match t with
    | .byteSerial => link.wdo
    | .wordParallel => Config.idleWdo link.exchanges
  answers := link.answers.tail
  exchanges := link.exchanges + 1
  frames := link.frames ++ [frameEvents t tx]

/-- The state after the wire activity of Exchange, whatever the answer (42_link_write.md R123). -/
def driveExchange (s : State) : State :=
  { s with link := linkAfterExchange s.cfg.transport (memBytes s.txbuf (exchangeLen s.cfg)) s.link }

/-- Exchange() of 42_link_write.md R123: the answer, and the state with RXBUF replaced by a complete answer and kept
on ABORT (90_conflicts.md C11; log 11). -/
def exchange (s : State) : RemoteAnswer × State :=
  match remoteAnswer s.link (exchangeLen s.cfg) with
  | .abort => (.abort, driveExchange s)
  | .complete rx =>
    (.complete (captureStream s.cfg.transport rx),
     { driveExchange s with rxbuf := memWriteBytes [] 0 (captureStream s.cfg.transport rx) })

end Sys2Proof.Machine
end

