-- ==== Sys2Proof/Machine/LinkWrite.lean ====
section
/-! DEFINITION. LINK_WRITE: the packet framer, the handshake and the classification of the answer
(spec/42_link_write.md R120 to R126, spec/30_encoding.md R90 to R96). -/

namespace Sys2Proof.Machine

/-- BuildTx, the framer (R122): tag, frequency words, joint-enable bitfield, setpoints, digital-output bitfield, and
padding up to L, each by MemWrite at its offset of 30_encoding.md R90. -/
def buildTx (s : State) : State :=
  let p := s.cfg
  let m1 := memWrite s.txbuf 0 4 p.tagWrite.toNat
  let m2 := memWriteWords m1 offFw (s.axes.map fun a => freqWord p a.freqCmd)
  let m3 := memWriteBytes m2 (offEn p) (bitfield (s.axes.map fun a => a.enable))
  let m4 := memWriteWords m3 (offSp p) s.setpoint
  let m5 := memWriteBytes m4 (offDo p) (bitfield s.dout)
  let m6 := memWriteBytes m5 (txLen p) (List.replicate (exchangeLen p - txLen p) 0)
  { s with txbuf := m6 }

/-- What every LINK_WRITE in RUN mode does before the handshake: RX_FRESH cleared, the hardware-reset request copied
(R121), the packet built (R122). -/
def prepareLink (s : State) : State :=
  buildTx { s with rxFresh := false, hwResetOut := s.hwResetIn }

/-- The header tag in RXBUF, MemRead(0, 4) (R126). -/
def rxTag (s : State) : Word32 := BitVec.ofNat 32 (memRead s.rxbuf 0 4)

/-- The handshake after a failed exchange: Fault with status 0, and the error raised (R126). -/
def linkFault (c : ErrCause) (s : State) : State := raise c { s with linkStatus := false, hsState := .fault }

/-- Classify (R126), given whether the exchange was aborted. -/
def classify (aborted : Bool) (s : State) : State :=
  if aborted then linkFault .xferFail s
  else
    let t := { s with lastRxTag := rxTag s }
    if rxTag s = s.cfg.tagData then { t with linkStatus := true, hsState := .active, rxFresh := true }
    else if rxTag s = s.cfg.tagEstop then linkFault .estop t
    else linkFault .badTag t

/-- The answer is an ABORT (R123). -/
def RemoteAnswer.isAbort : RemoteAnswer → Bool
  | .abort => true
  | .complete _ => false

/-- One attempt: ATTEMPT_COUNT counts it, the exchange is made and its answer classified (R120). -/
def attemptExchange (s : State) : State :=
  let e := exchange { s with attemptCount := s.attemptCount + 1 }
  classify e.1.isAbort e.2

/-- Whether LINK_WRITE attempts an exchange: enabled, and a rising edge of LINK_RESET or a status of 1 (R120). -/
def attempts (s : State) : Bool := s.linkEnable && (resetEdge s || s.linkStatus)

/-- The handshake (R120, R125). -/
def handshake (s : State) : State :=
  if !s.linkEnable then { s with linkStatus := false, hsState := .disabled }
  else if attempts s then attemptExchange s
  else if s.hsState = .disabled then { s with hsState := .armed }
  else s

/-- PREV_RESET records LINK_RESET (R120, R167). -/
def recordReset (s : State) : State := { s with prevReset := s.linkReset }

/-- LINK_WRITE (R120). -/
def execLinkWrite (s : State) : Host.Outcome State Fault Refusal :=
  if s.coreMode = .config then .next (raise .notRun s)
  else .next (recordReset (handshake (prepareLink s)))

end Sys2Proof.Machine
end

