-- ==== Sys2Proof/Machine/Dispatch.lean ====
section
/-! DEFINITION. One arm for each operation of the opcode table (spec/30_encoding.md R84). -/

namespace Sys2Proof.Machine

/-- The meaning of each operation. -/
def exec (i : Instr) (s : State) : Host.Outcome State Fault Refusal :=
  match i with
  | .nop => Sys2Proof.Machine.execNop s
  | .init => Sys2Proof.Machine.execInit s
  | .cmdgen period => Sys2Proof.Machine.execCmdgen period s
  | .linkWrite => Sys2Proof.Machine.execLinkWrite s
  | .linkRead => Sys2Proof.Machine.execLinkRead s
  | .regWrite addr data => Sys2Proof.Machine.execRegWrite addr data s
  | .regRead addr => Sys2Proof.Machine.execRegRead addr s

end Sys2Proof.Machine
end

