-- ==== Sys2Proof/Machine/Port.lean ====
section
/-! DEFINITION. The host command port (spec/20_memory.md R64): a presented command decoded and performed, and the
levels of RST_N (spec/70_reset_and_hazards.md R161). -/

namespace Sys2Proof.Machine

/-- One presented command: decoded; an illegal word raises ILLEGAL_CMD and runs no operation (30_encoding.md R85,
60_exceptions.md R144); a legal one is performed; then CMD_DONE is asserted (20_memory.md R64). -/
def performCommand (c : Command) (s : State) : Host.Outcome State Fault Refusal :=
  match decode c.cmd c.dataIn with
  | .illegal _ => .next (completeCommand (raise .illegalCmd s))
  | .instr i => thenState (exec i s) completeCommand

/-- One event of the host port, already taken off the host's list. While RST_N is 0 the core accepts no command
(70_reset_and_hazards.md R161; log 4). -/
def hostEvent (e : HostEvent) (s : State) : Host.Outcome State Fault Refusal :=
  match e with
  | .command c => if s.host.rstN then performCommand c s else .next s
  | .rstLow => .next (enterReset s)
  | .rstHigh => .next (leaveReset s)
  | .commandCut _ => .next (enterReset s)

/-- The command an instruction of the opcode table is presented as (log 16). -/
def tableCommand (nbits w : Nat) : Command where
  cmd := (tableWords nbits w).1
  dataIn := (tableWords nbits w).2

/-- The command as the very next event of the host port, with RST_N at 1 so that it is accepted (log 2). -/
def presentCommand (c : Command) (s : State) : State :=
  { s with host := { s.host with rstN := true, events := .command c :: s.host.events } }

end Sys2Proof.Machine
end

