-- ==== Sys2Proof/Machine/Step.lean ====
section
/-! DEFINITION. One step of the machine: the next event of the host port (spec/20_memory.md R64). The core fetches no
instruction (spec/20_memory.md R80); between commands it is idle with all state held (spec/60_exceptions.md R160). -/

namespace Sys2Proof.Machine

/-- One step: the next event the host presents; with none to come the core is idle (log 2). -/
def step (s : State) : Host.Outcome State Fault Refusal :=
  match s.host.events with
  | [] => .next s
  | e :: _ => hostEvent e (takeEvent s)

/-- The state with this instruction presented by the host as its next command (log 2, log 16). -/
def State.withFetchWord (s : State) (nbits w : Nat) : State := presentCommand (tableCommand nbits w) s

end Sys2Proof.Machine
end

