-- ==== Sys2Proof/WellFormed.lean ====
section
/-! DEFINITION. What is well formed: the parameter ranges of spec/00_scope.md R7, the legal CMD words of
spec/30_encoding.md R85, the mapped registers of spec/20_memory.md R66, and assembly lines (R87). A term of `Instr`
carries the widths of its operands in its type, so every such term is well formed and nothing is left to check. -/

namespace Sys2Proof

/-- J is 1 to 128 (00_scope.md R7). -/
def Params.axesInRange (p : Params) : Bool := decide (1 ≤ p.J) && decide (p.J ≤ 128)

/-- N, M and K are 0 to 256 (00_scope.md R7). -/
def Params.channelsInRange (p : Params) : Bool :=
  decide (p.N ≤ 256) && decide (p.M ≤ 256) && decide (p.K ≤ 256)

/-- BASE_FREQ_HZ is 1 to 2^32 - 1 (00_scope.md R7). -/
def Params.baseInRange (p : Params) : Bool := decide (1 ≤ p.baseFreqHz) && decide (p.baseFreqHz < 2 ^ 32)

/-- TAG_DATA and TAG_ESTOP differ (00_scope.md R7, 30_encoding.md R93). -/
def Params.tagsDiffer (p : Params) : Bool := decide (p.tagData ≠ p.tagEstop)

/-- The parameters are ones the core can be built for (00_scope.md R7). -/
def Params.wellFormed (p : Params) : Bool :=
  p.axesInRange && p.channelsInRange && p.baseInRange && p.tagsDiffer

/-- RSV, CMD[23:16], is 0 (30_encoding.md R82, R85). -/
def cmdRsvZero (cmd : Word32) : Bool := cmd.extractLsb' 16 8 == 0#8

/-- OPC, CMD[31:24], is one of 0x00 to 0x06 (30_encoding.md R84, R85). -/
def cmdOpcodeDefined (cmd : Word32) : Bool := decide ((cmd.extractLsb' 24 8).toNat ≤ 0x06)

/-- ADDR, CMD[15:0], is 0 unless OPC is REG_WRITE or REG_READ (30_encoding.md R82, R85). -/
def cmdAddrAllowed (cmd : Word32) : Bool :=
  cmd.extractLsb' 24 8 == 0x05#8 || cmd.extractLsb' 24 8 == 0x06#8 || cmd.extractLsb' 0 16 == 0#16

/-- A command word that is not illegal by 30_encoding.md R85. -/
def cmdLegal (cmd : Word32) : Bool := cmdRsvZero cmd && cmdOpcodeDefined cmd && cmdAddrAllowed cmd

/-- The register exists under these parameters: a channel or axis index at or beyond N, M, K or J does not
(20_memory.md R66). -/
def Reg.mapped (p : Params) : Reg → Bool
  | .global _ => true
  | .setpoint n => decide (n < p.N)
  | .pv m => decide (m < p.M)
  | .dout k => decide (k < p.K)
  | .din k => decide (k < p.K)
  | .dinNot k => decide (k < p.K)
  | .axis j _ => decide (j < p.J)

/-- `<reg>` is a 16-bit address or a register that exists (30_encoding.md R87). -/
def AsmReg.wellFormed (p : Params) : AsmReg → Bool
  | .address a => decide (a < 2 ^ 16)
  | .name r => r.mapped p

/-- `<period_ns>` fits the S32 operand of CMDGEN (30_encoding.md R83, R87). -/
def asmPeriodWellFormed (period : Int) : Bool := decide (-2 ^ 31 ≤ period) && decide (period < 2 ^ 31)

/-- An assembly line whose operands can be encoded (30_encoding.md R87, R88). A value of any size is well formed:
an integer is "taken modulo 2^FX_W", and a decimal outside the FX range stands for a free value (log 19). -/
def AsmLine.wellFormed (p : Params) : AsmLine → Bool
  | .nop => true
  | .init => true
  | .cmdgen period => asmPeriodWellFormed period
  | .linkWrite => true
  | .linkRead => true
  | .regWrite r _ => r.wellFormed p
  | .regRead r => r.wellFormed p
  | .tick period => asmPeriodWellFormed period
  | .clrerr => true
  | .enableAxis j => decide (j < p.J)

end Sys2Proof
end

