-- ==== Sys2Proof/Machine/Assembler.lean ====
section
/-! DEFINITION. Assembly lines (spec/30_encoding.md R87), the expansions of the pseudo-instructions (R88), and a line as
text, written and read. -/

namespace Sys2Proof.Machine

/-- The address `<reg>` stands for (R87, R89). -/
def asmAddress : AsmReg → RegAddr
  | .address a => BitVec.ofNat 16 a
  | .name r => regAddress r

/-- The operand word of `fx(<decimal>)`: the FX raw value rounded toward zero (R87, 40_fixed_point.md R106 (c)). The
spec states no word for a raw value outside the FX range; DESIGN CHOICE (log 19): a free value. -/
def fxOperand (digits : Int) (places : Nat) : FxWord :=
  if fxMin ≤ fxLiteral digits (10 ^ places) ∧ fxLiteral digits (10 ^ places) ≤ fxMax then
    fxWord (fxLiteral digits (10 ^ places))
  else Config.fxBeyondRange digits places

/-- The operand word `<value>` stands for: an integer modulo 2^FX_W, or the word of a decimal (R87). -/
def asmOperand : AsmValue → FxWord
  | .int v => BitVec.ofInt 128 v
  | .fx digits places => fxOperand digits places

/-- The commands a line stands for, in order (R87, R88). -/
def assemble : AsmLine → List Instr
  | .nop => [.nop]
  | .init => [.init]
  | .cmdgen period => [.cmdgen (BitVec.ofInt 32 period)]
  | .linkWrite => [.linkWrite]
  | .linkRead => [.linkRead]
  | .regWrite r v => [.regWrite (asmAddress r) (asmOperand v)]
  | .regRead r => [.regRead (asmAddress r)]
  | .tick period => [.cmdgen (BitVec.ofInt 32 period), .linkWrite, .linkRead]
  | .clrerr => [.regWrite (regAddress (.global .err)) 0xFFFFFFFF]
  | .enableAxis j => [.regWrite (regAddress (.axis j .enable)) 1]

/-! ## The text of a line -/

/-- The name of a global register (R87, 10_state.md). -/
def globalName : GlobalReg → String
  | .coreMode => "CORE_MODE"
  | .err => "ERR"
  | .linkEnable => "LINK_ENABLE"
  | .linkReset => "LINK_RESET"
  | .linkStatus => "LINK_STATUS"
  | .hsState => "HS_STATE"
  | .hwResetIn => "HW_RESET_IN"
  | .hwResetOut => "HW_RESET_OUT"
  | .lastRxTag => "LAST_RX_TAG"
  | .attemptCount => "ATTEMPT_COUNT"
  | .dt => "DT"
  | .recipDt => "RECIP_DT"
  | .oldPeriod => "OLD_PERIOD"
  | .prevReset => "PREV_RESET"
  | .rxFresh => "RX_FRESH"

/-- The NAME of an axis register (R87, 10_state.md). -/
def axisRegName : AxisReg → String
  | .mode => "MODE"
  | .fbType => "FB_TYPE"
  | .enable => "ENABLE"
  | .scale => "SCALE"
  | .pgain => "PGAIN"
  | .ff1gain => "FF1GAIN"
  | .deadband => "DEADBAND"
  | .maxvel => "MAXVEL"
  | .maxaccel => "MAXACCEL"
  | .posCmd => "POS_CMD"
  | .velCmd => "VEL_CMD"
  | .posFb => "POS_FB"
  | .count => "COUNT"
  | .freqCmd => "FREQ_CMD"
  | .scaleRecip => "SCALE_RECIP"
  | .oldScale => "OLD_SCALE"
  | .prevCmd => "PREV_CMD"
  | .oldCount => "OLD_COUNT"

/-- The name of a register in an assembly line (R87). -/
def regName : Reg → String
  | .global r => globalName r
  | .setpoint n => "SETPOINT" ++ Nat.repr n
  | .pv m => "PV" ++ Nat.repr m
  | .dout k => "DOUT" ++ Nat.repr k
  | .din k => "DIN" ++ Nat.repr k
  | .dinNot k => "DIN_NOT" ++ Nat.repr k
  | .axis j r => "AX" ++ Nat.repr j ++ "." ++ axisRegName r

/-- `<reg>` as text (R87). -/
def asmRegText : AsmReg → String
  | .address a => Nat.repr a
  | .name r => regName r

/-- The text of a natural number with this many decimal places. -/
def decimalText (v places : Nat) : String :=
  if places = 0 then Nat.repr v
  else
    let frac := Nat.repr (v % 10 ^ places)
    Nat.repr (v / 10 ^ places) ++ "." ++ String.ofList (List.replicate (places - frac.length) '0') ++ frac

/-- `<value>` as text (R87). -/
def asmValueText : AsmValue → String
  | .int v => Int.repr v
  | .fx digits places => "fx(" ++ (if digits < 0 then "-" else "") ++ decimalText digits.natAbs places ++ ")"

/-- An assembly line as text (R87, R88). -/
def asmText : AsmLine → String
  | .nop => "NOP"
  | .init => "INIT"
  | .cmdgen period => "CMDGEN " ++ Int.repr period
  | .linkWrite => "LINK_WRITE"
  | .linkRead => "LINK_READ"
  | .regWrite r v => "REG_WRITE " ++ asmRegText r ++ ", " ++ asmValueText v
  | .regRead r => "REG_READ " ++ asmRegText r
  | .tick period => "TICK " ++ Int.repr period
  | .clrerr => "CLRERR"
  | .enableAxis j => "ENABLE_AXIS " ++ Nat.repr j

/-! ## Reading a line (R87; log 17) -/

/-- A finished token before the tokens that follow it; no characters make no token. -/
def asmFlush (cur : List Char) (rest : List (List Char)) : List (List Char) :=
  if cur = [] then rest else cur.reverse :: rest

/-- The tokens of a line: blanks separate them, a comma is one by itself, `;` starts a comment. -/
def asmTokens (cur : List Char) : List Char → List (List Char)
  | [] => asmFlush cur []
  | c :: cs =>
    if c = ';' then asmFlush cur []
    else if c = ' ' || c = '\t' then asmFlush cur (asmTokens [] cs)
    else if c = ',' then asmFlush cur ([','] :: asmTokens [] cs)
    else asmTokens (c :: cur) cs

/-- The value of a digit, 0-9 or a hexadecimal one of either case. -/
def asmDigit (c : Char) : Nat :=
  if '0' ≤ c && c ≤ '9' then c.toNat - 48
  else if 'A' ≤ c && c ≤ 'F' then c.toNat - 55
  else if 'a' ≤ c && c ≤ 'f' then c.toNat - 87
  else 16

/-- The number that these digits write in a base, after the digits already read. -/
def asmDigits (base acc : Nat) : List Char → Option Nat
  | [] => some acc
  | c :: cs => if asmDigit c < base then asmDigits base (base * acc + asmDigit c) cs else none

/-- A natural number, in hexadecimal after 0x and in decimal otherwise. -/
def asmNat : List Char → Option Nat
  | [] => none
  | ['0', 'x'] => none
  | '0' :: 'x' :: cs => asmDigits 16 0 cs
  | cs => asmDigits 10 0 cs

/-- An integer: a natural number with an optional minus sign. -/
def asmInt : List Char → Option Int
  | '-' :: cs => (asmNat cs).map fun n => -(n : Int)
  | cs => (asmNat cs).map Int.ofNat

/-- A decimal fraction: its digits without the point, and how many stand after it. -/
def asmDecimal (cs : List Char) : Option (Nat × Nat) :=
  let whole := cs.takeWhile (· != '.')
  let places := (cs.dropWhile (· != '.')).drop 1
  if whole = [] then none else (asmDigits 10 0 (whole ++ places)).map fun n => (n, places.length)

/-- `<value>`: an integer or `fx(<decimal>)`. -/
def asmReadValue : List Char → Option AsmValue
  | 'f' :: 'x' :: '(' :: cs =>
    if cs.getLast? = some ')' then
      match cs.dropLast with
      | '-' :: ds => (asmDecimal ds).map fun x => .fx (-(x.1 : Int)) x.2
      | ds => (asmDecimal ds).map fun x => .fx x.1 x.2
    else none
  | cs => (asmInt cs).map .int

/-- What stands after this name at the start of a token. -/
def asmAfter : List Char → List Char → Option (List Char)
  | [], cs => some cs
  | _ :: _, [] => none
  | n :: ns, c :: cs => if n = c then asmAfter ns cs else none

/-- Every global register. -/
def globalRegs : List GlobalReg := (List.range 15).filterMap globalAt

/-- Every axis register. -/
def axisRegs : List AxisReg := (List.range 18).filterMap axisRegAt

/-- A channel register by its name and number. -/
def asmReadChannel (name : String) (mk : Nat → Reg) (cs : List Char) : Option Reg :=
  (asmAfter name.toList cs).bind fun ds => (asmDigits 10 0 ds).bind fun n => if ds = [] then none else some (mk n)

/-- `AX<j>.<NAME>`. -/
def asmReadAxisReg (cs : List Char) : Option Reg :=
  (asmAfter "AX".toList cs).bind fun rest =>
    let index := rest.takeWhile (· != '.')
    let name := (rest.dropWhile (· != '.')).drop 1
    if index = [] then none
    else
      (asmDigits 10 0 index).bind fun j =>
        (axisRegs.find? fun r => (axisRegName r).toList = name).map fun r => .axis j r

/-- A register name. -/
def asmReadName (cs : List Char) : Option Reg :=
  ((globalRegs.find? fun r => (globalName r).toList = cs).map Reg.global) <|>
    asmReadChannel "SETPOINT" .setpoint cs <|> asmReadChannel "PV" .pv cs <|> asmReadChannel "DOUT" .dout cs <|>
    asmReadChannel "DIN_NOT" .dinNot cs <|> asmReadChannel "DIN" .din cs <|> asmReadAxisReg cs

/-- `<reg>`: an address or a name. -/
def asmReadReg (cs : List Char) : Option AsmReg :=
  ((asmNat cs).map AsmReg.address) <|> ((asmReadName cs).map AsmReg.name)

/-- A command with its operands. -/
def asmReadCommand (op : List Char) (args : List (List Char)) : Option AsmLine :=
  match args with
  | [] =>
    if op = "NOP".toList then some .nop
    else if op = "INIT".toList then some .init
    else if op = "LINK_WRITE".toList then some .linkWrite
    else if op = "LINK_READ".toList then some .linkRead
    else if op = "CLRERR".toList then some .clrerr
    else none
  | [x] =>
    if op = "CMDGEN".toList then (asmInt x).map .cmdgen
    else if op = "TICK".toList then (asmInt x).map .tick
    else if op = "REG_READ".toList then (asmReadReg x).map .regRead
    else if op = "ENABLE_AXIS".toList then (asmNat x).map .enableAxis
    else none
  | [x, [','], y] =>
    if op = "REG_WRITE".toList then (asmReadReg x).bind fun r => (asmReadValue y).map fun v => .regWrite r v
    else none
  | _ => none

/-- The commands of a line of text: none where it holds only a comment, and no answer where it is no line of R87 or
R88, or names a register or a value that does not exist. -/
def assembleText (p : Params) (line : String) : Option (List Instr) :=
  match asmTokens [] line.toList with
  | [] => some []
  | op :: args => (asmReadCommand op args).bind fun l => if l.wellFormed p then some (assemble l) else none

end Sys2Proof.Machine
end

