-- ==== Sys2Proof/Safety.lean ====
section
/-! DEFINITION. What the statements speak of beside the step: the invariant of the machine (spec/10_state.md R61 and the
sizes and canonical forms of its data), runs of operations and of host events, and what an observer of the link sees
(spec/00_scope.md R16). -/

namespace Sys2Proof.Machine

/-- Every array of the state has the length that the parameters give it (00_scope.md R7, 10_state.md R35 to R59). -/
def State.sized (s : State) : Prop :=
  s.setpoint.length = s.cfg.N ∧ s.pv.length = s.cfg.M ∧ s.dout.length = s.cfg.K ∧ s.din.length = s.cfg.K ∧
    s.dinNot.length = s.cfg.K ∧ s.axes.length = s.cfg.J

/-- The cached tick constants are those of OLD_PERIOD, or no CMDGEN has run since reset (10_state.md R34, 41_cmdgen.md
R107). -/
def State.tickCached (s : State) : Prop :=
  (s.oldPeriod = 0 ∧ s.dt = 0 ∧ s.recipDt = 0) ∨
    (0 < s.oldPeriod.toInt ∧ s.dt = fxWord (fxSat (tdiv (s.oldPeriod.toInt * fxOne) 1000000000)) ∧
      s.recipDt = fxWord (fxDiv fxOne (fxSat (tdiv (s.oldPeriod.toInt * fxOne) 1000000000))))

/-- SCALE_RECIP is the reciprocal of OLD_SCALE, which is never 0 (10_state.md R56, R57; 41_cmdgen.md R108). -/
def Axis.scaleCached (a : Axis) : Prop := a.oldScale ≠ 0 ∧ a.scaleRecip = fxWord (fxDiv fxOne (fxVal a.oldScale))

/-- |FREQ_CMD| is at most MF_HW (10_state.md R61 (d)). -/
def Axis.freqBounded (p : Params) (a : Axis) : Prop := -mfHw p ≤ fxVal a.freqCmd ∧ fxVal a.freqCmd ≤ mfHw p

/-- MODE and FB_TYPE are 0 or 1 (10_state.md R61 (f)). -/
def Axis.tagsLegal (a : Axis) : Prop := a.mode.toNat ≤ 1 ∧ a.fbType.toNat ≤ 1

/-- The invariant of the machine. Clauses (a), (b), (c), (d) and (f) are those of 10_state.md R61; (e) speaks of an
earlier operation and is a statement about LINK_WRITE. The others say that the data keep their form. -/
structure State.Inv (s : State) : Prop where
  /-- The parameters are in the ranges of 00_scope.md R7. -/
  params : s.cfg.wellFormed = true
  /-- The arrays have their lengths. -/
  sizes : s.sized
  /-- R61 (a): LINK_STATUS is 1 exactly when HS_STATE is Active. -/
  statusActive : s.linkStatus = true ↔ s.hsState = .active
  /-- R61 (b): RX_FRESH implies LINK_STATUS. -/
  freshStatus : s.rxFresh = true → s.linkStatus = true
  /-- R61 (c): DIN_NOT is the complement of DIN. -/
  inputs : s.dinNot = s.din.map not
  /-- R61 (d): |FREQ_CMD| is at most MF_HW on every axis. -/
  frequencies : ∀ a ∈ s.axes, a.freqBounded s.cfg
  /-- R61 (f): in RUN mode the tags of every axis are 0 or 1. -/
  tags : s.coreMode = .run → ∀ a ∈ s.axes, a.tagsLegal
  /-- The cached tick constants belong to OLD_PERIOD. -/
  tick : s.tickCached
  /-- The cached reciprocals belong to OLD_SCALE, which is not 0. -/
  scales : ∀ a ∈ s.axes, a.scaleCached
  /-- ERR bits 31:10 are 0 (10_state.md R25). -/
  errBits : s.err &&& ~~~errMask = 0
  /-- TXBUF is canonical and has no byte at or above L (10_state.md R40, 20_memory.md R67). -/
  tx : s.txbuf.wf = true ∧ s.txbuf.within (exchangeLen s.cfg) = true
  /-- RXBUF is canonical and has no byte at or above L (10_state.md R40, 20_memory.md R67). -/
  rx : s.rxbuf.wf = true ∧ s.rxbuf.within (exchangeLen s.cfg) = true
  /-- Between operations no exchange is framed: LINK_CS_N is 1, LINK_SCLK and LINK_WSTB are 0 (42_link_write.md R123,
  R124, R127). -/
  linkIdle : s.link.csN = true ∧ s.link.sclk = false ∧ s.link.wstb = false
  /-- While RST_N is 0 every register and pin is at its reset value (70_reset_and_hazards.md R161, R162). -/
  heldInReset : s.host.rstN = false → enterReset s = s

/-- A core with well-formed parameters right after reset, with these host events and these remote answers to come:
every run of the core starts in such a state (00_scope.md R13, R18). -/
def State.started (p : Params) (events : List HostEvent) (answers : List RemoteAnswer) : State :=
  { State.initial p with
    host := { HostPort.reset with events := events }
    link := { LinkPort.reset with answers := answers } }

/-- A sequence of operations, one after another: the host's program (44_host_ops.md R141). -/
def execAll : List Instr → State → Host.Outcome State Fault Refusal
  | [], s => .next s
  | i :: is, s =>
    match exec i s with
    | .next t => execAll is t
    | .fault r => .fault r
    | .refused r => .refused r

/-- The operation is a REG_WRITE to this address. -/
def writesTo (addr : RegAddr) : Instr → Bool
  | .nop => false
  | .init => false
  | .cmdgen _ => false
  | .linkWrite => false
  | .linkRead => false
  | .regWrite a _ => a == addr
  | .regRead _ => false

/-- The address is one of the mapped ones, as 20_memory.md R66 lists them. -/
def mappedAddress (p : Params) (a : Nat) : Prop :=
  a ≤ 0x000E ∨ (∃ n < p.N, a = 0x0100 + n) ∨ (∃ m < p.M, a = 0x0200 + m) ∨
    (∃ k < p.K, a = 0x0300 + k ∨ a = 0x0400 + k ∨ a = 0x0500 + k) ∨
    (∃ j < p.J, ∃ o ≤ 0x11, a = 0x1000 + 0x20 * j + o)

/-- What an observer of the serial link samples: the level of LINK_MOSI at each rising edge of LINK_SCLK, given its
level before (42_link_write.md R124). -/
def mosiSamples : Bool → List LinkEvent → List Bool
  | _, [] => []
  | _, .mosi b :: es => mosiSamples b es
  | b, .sclk true :: es => b :: mosiSamples b es
  | b, .sclk false :: es => mosiSamples b es
  | b, .csN _ :: es => mosiSamples b es
  | b, .wstb _ :: es => mosiSamples b es
  | b, .wdo _ :: es => mosiSamples b es

/-- What an observer of the parallel link samples: the word on LINK_WDO at each pulse of LINK_WSTB, given the word
before (42_link_write.md R127). -/
def wdoSamples : Word32 → List LinkEvent → List Word32
  | _, [] => []
  | _, .wdo w :: es => wdoSamples w es
  | w, .wstb true :: es => w :: wdoSamples w es
  | w, .wstb false :: es => wdoSamples w es
  | w, .csN _ :: es => wdoSamples w es
  | w, .sclk _ :: es => wdoSamples w es
  | w, .mosi _ :: es => wdoSamples w es

/-- The four bytes of a 32-bit packet field, least significant first (20_memory.md R68). -/
def fieldBytes (w : Word32) : List Byte :=
  [w.extractLsb' 0 8, w.extractLsb' 8 8, w.extractLsb' 16 8, w.extractLsb' 24 8]

/-- The outbound packet in the field order of 30_encoding.md R90, with its padding. -/
def outboundPacket (s : State) : List Byte :=
  fieldBytes s.cfg.tagWrite ++ (s.axes.flatMap fun a => fieldBytes (freqWord s.cfg a.freqCmd)) ++
    bitfield (s.axes.map fun a => a.enable) ++ s.setpoint.flatMap fieldBytes ++ bitfield s.dout ++
    List.replicate (exchangeLen s.cfg - txLen s.cfg) 0

/-- The decodes of a sequence of raw counters by an Incremental axis, in order (43_feedback_read.md R136). -/
def decodeAll (a : Axis) (raws : List Word32) : Axis := raws.foldl (fun b raw => decodeIncremental raw b) a

end Sys2Proof.Machine
end

