-- ==== Sys2Proof/Certificates/Slice0/Obligations.lean ====
section
/-! DEFINITION. The statements about the model, each from a rule of spec/. They are about the machine in any state with
any parameters, never about a program. -/

open Sys2Proof Sys2Proof.Machine

/-! ## Commands and their encoding -/

/-- Decoding what the encoder writes gives the operation back, with every operand at every value (30_encoding.md,
section 1). -/
def Obligations.DecodeOfEncodeIsTheOperation : Prop :=
  ∀ i : Instr, decode (encode i).1 (encode i).2 = .instr i

/-- R85 and R144: a command word is illegal exactly when OPC is 0x07 to 0xFF, or RSV is not 0, or OPC is neither
REG_WRITE nor REG_READ and ADDR is not 0; presented to a core that is not in reset, in either mode, it sets ERR bit 1
and changes nothing else: of the host side only the event list and CMD_DONE move, as for every command. -/
def Obligations.IllegalWordsRaiseIllegalCmdOnly : Prop :=
  ∀ (s : State) (c : Command) (es : List HostEvent),
    s.host.rstN = true → s.host.events = .command c :: es →
    (if 0x07 ≤ c.cmd.toNat / 2 ^ 24 ∨ c.cmd.toNat / 2 ^ 16 % 2 ^ 8 ≠ 0 ∨
        (c.cmd.toNat / 2 ^ 24 ≠ 0x05 ∧ c.cmd.toNat / 2 ^ 24 ≠ 0x06 ∧ c.cmd.toNat % 2 ^ 16 ≠ 0)
      then
        ∃ t, step s = .next t ∧ t = { s with err := s.err ||| 0x2, host := t.host } ∧ t.host.rstN = true ∧
          t.host.events = es
      else ∃ i, decode c.cmd c.dataIn = .instr i)

/-- The rows of the opcode table: a CMD word is of a row exactly when the decoder reads that row's operation from it,
whatever DATA_IN is (30_encoding.md, section 1; opcode_table.json). -/
def Obligations.OpcodeRowsAreTheDecodedWords : Prop :=
  ∀ (cmd : Word32) (d : FxWord), ∀ r ∈ opcodeRows,
    (r.covers cmd = true ↔ ∃ i, decode cmd d = .instr i ∧ i.mnemonic = r.mnemonic)

/-- A step whose next event is a command that decodes to `i`, on a core that is not in reset, is `exec i` in the state
with the event taken off, and then CMD_DONE is asserted (20_memory.md, section 1). The event list is the model's choice,
log 2; that CMD_DONE stays asserted is log 5. -/
def Obligations.StepRunsTheDecodedOperation : Prop :=
  ∀ (s : State) (c : Command) (es : List HostEvent) (i : Instr),
    s.host.rstN = true → s.host.events = .command c :: es → decode c.cmd c.dataIn = .instr i →
      step s = thenState (exec i { s with host := { s.host with events := es } }) completeCommand

/-- The words of the vectors V5-1 to V5-12 of 95_test_vectors.md, one of each opcode, decode to the operations they
stand for. -/
def Obligations.VectorWordsDecode : Prop :=
  decode 0x00000000 0 = .instr .nop ∧ decode 0x01000000 0 = .instr .init ∧
    decode 0x02000000 1000000 = .instr (.cmdgen 1000000) ∧ decode 0x03000000 0 = .instr .linkWrite ∧
    decode 0x04000000 0 = .instr .linkRead ∧
    decode 0x05001003 18446744073709551616000 = .instr (.regWrite 0x1003 18446744073709551616000) ∧
    decode 0x06000507 0 = .instr (.regRead 0x0507)

/-- The address of a register that exists names that register and no other (30_encoding.md, section 2; 20_memory.md,
section 2). -/
def Obligations.RegisterAddressesAreOneToOne : Prop :=
  ∀ (p : Params) (r : Reg) (a : RegAddr), p.wellFormed = true →
    (regAt p a = some r ↔ r.mapped p = true ∧ regAddress r = a)

/-- R66: which addresses are mapped, and that REG_READ and REG_WRITE of any other raise BAD_ADDR. -/
def Obligations.UnmappedAddressesRaiseBadAddr : Prop :=
  ∀ (s : State) (a : RegAddr) (d : FxWord), s.cfg.wellFormed = true →
    (mappedAddress s.cfg a.toNat → ∃ r, regAt s.cfg a = some r) ∧
    (¬ mappedAddress s.cfg a.toNat →
      exec (.regWrite a d) s = .next { s with err := s.err ||| 0x4 } ∧
        exec (.regRead a) s = .next { s with err := s.err ||| 0x4, dataOut := 0 })

/-! ## Host registers -/

/-- REG_READ of each of the eighteen registers of an axis puts its value, extended as its type says, in DATA_OUT and
changes nothing else (44_host_ops.md, REG_READ; 10_state.md, sections 2 and 4). -/
def Obligations.RegReadOfAnAxisBank : Prop :=
  ∀ (s : State) (j : Nat) (a : Axis), s.cfg.wellFormed = true → j < s.cfg.J → s.axes[j]? = some a →
    ∀ x ∈ ([(0x00, a.mode.setWidth 128), (0x01, a.fbType.setWidth 128), (0x02, (BitVec.ofBool a.enable).setWidth 128),
        (0x03, a.scale), (0x04, a.pgain), (0x05, a.ff1gain), (0x06, a.deadband), (0x07, a.maxvel), (0x08, a.maxaccel),
        (0x09, a.posCmd), (0x0A, a.velCmd), (0x0B, a.posFb), (0x0C, a.count.signExtend 128), (0x0D, a.freqCmd),
        (0x0E, a.scaleRecip), (0x0F, a.oldScale), (0x10, a.prevCmd), (0x11, a.oldCount.signExtend 128)] :
          List (Nat × FxWord)),
      exec (.regRead (BitVec.ofNat 16 (0x1000 + 0x20 * j + x.1))) s = .next { s with dataOut := x.2 }

/-- REG_READ of each global register and of each channel register puts its value, extended as its type says, in DATA_OUT
and changes nothing else (44_host_ops.md, REG_READ; 10_state.md, sections 2 and 3). -/
def Obligations.RegReadOfGlobalsAndChannels : Prop :=
  ∀ s : State, s.cfg.wellFormed = true →
    (∀ x ∈ ([(0x0000, if s.coreMode = .run then 1 else 0), (0x0001, (s.err &&& 0x3FF).setWidth 128),
        (0x0002, (BitVec.ofBool s.linkEnable).setWidth 128), (0x0003, (BitVec.ofBool s.linkReset).setWidth 128),
        (0x0004, (BitVec.ofBool s.linkStatus).setWidth 128),
        (0x0005, match s.hsState with | .disabled => 0 | .armed => 1 | .active => 2 | .fault => 3),
        (0x0006, (BitVec.ofBool s.hwResetIn).setWidth 128), (0x0007, (BitVec.ofBool s.hwResetOut).setWidth 128),
        (0x0008, s.lastRxTag.setWidth 128), (0x0009, s.attemptCount.setWidth 128), (0x000A, s.dt), (0x000B, s.recipDt),
        (0x000C, s.oldPeriod.signExtend 128), (0x000D, (BitVec.ofBool s.prevReset).setWidth 128),
        (0x000E, (BitVec.ofBool s.rxFresh).setWidth 128)] : List (Nat × FxWord)),
      exec (.regRead (BitVec.ofNat 16 x.1)) s = .next { s with dataOut := x.2 }) ∧
    (∀ n v, n < s.cfg.N → s.setpoint[n]? = some v →
      exec (.regRead (BitVec.ofNat 16 (0x0100 + n))) s = .next { s with dataOut := v.setWidth 128 }) ∧
    (∀ m v, m < s.cfg.M → s.pv[m]? = some v →
      exec (.regRead (BitVec.ofNat 16 (0x0200 + m))) s = .next { s with dataOut := v.setWidth 128 }) ∧
    (∀ k b, k < s.cfg.K → s.dout[k]? = some b →
      exec (.regRead (BitVec.ofNat 16 (0x0300 + k))) s =
        .next { s with dataOut := (BitVec.ofBool b).setWidth 128 }) ∧
    (∀ k b, k < s.cfg.K → s.din[k]? = some b →
      exec (.regRead (BitVec.ofNat 16 (0x0400 + k))) s =
        .next { s with dataOut := (BitVec.ofBool b).setWidth 128 }) ∧
    (∀ k b, k < s.cfg.K → s.dinNot[k]? = some b →
      exec (.regRead (BitVec.ofNat 16 (0x0500 + k))) s =
        .next { s with dataOut := (BitVec.ofBool b).setWidth 128 })

/-- REG_WRITE of a register that the host may write, RW in any mode or RWC in CONFIG mode, completes: the register reads
as the operand truncated to its width, every other register reads as before, and DATA_OUT, both packet spaces, the host
side and the link side are unchanged (44_host_ops.md, REG_WRITE; 10_state.md, section 2). -/
def Obligations.RegWriteStoresTheTruncatedOperand : Prop :=
  ∀ (s : State) (r : Reg) (d : FxWord), s.cfg.wellFormed = true → s.sized → r.mapped s.cfg = true →
    (regAccess r = .rw ∨ (regAccess r = .rwc ∧ s.coreMode = .config)) →
    ∃ t, exec (.regWrite (regAddress r) d) s = .next t ∧
      (readReg t r).toNat =
        (match regType r with
          | .bool => d.toNat % 2
          | .u2 => d.toNat % 4
          | .u8 => d.toNat % 256
          | .u32 => d.toNat % 2 ^ 32
          | _ => d.toNat) ∧
      (∀ r', r' ≠ r → r'.mapped s.cfg = true → readReg t r' = readReg s r') ∧
      t.dataOut = s.dataOut ∧ t.txbuf = s.txbuf ∧ t.rxbuf = s.rxbuf ∧ t.host = s.host ∧ t.link = s.link ∧
      t.cfg = s.cfg ∧ t.sized

/-- R23: a REG_WRITE to an RO register raises RO_WRITE and changes nothing; RWC is like RW in CONFIG mode and raises
CFG_LOCKED and changes nothing in RUN mode; a W1C write clears every bit that is 1 in the operand and leaves the others of
bits 9:0, the bits that exist; no read changes a register. -/
def Obligations.AccessTypesDecideWrites : Prop :=
  ∀ (s : State) (r : Reg) (d : FxWord), s.cfg.wellFormed = true → r.mapped s.cfg = true →
    (∃ v, exec (.regRead (regAddress r)) s = .next { s with dataOut := v }) ∧
    match regAccess r with
    | .ro => exec (.regWrite (regAddress r) d) s = .next { s with err := s.err ||| 0x8 }
    | .rwc =>
      if s.coreMode = .run then exec (.regWrite (regAddress r) d) s = .next { s with err := s.err ||| 0x10 }
      else exec (.regWrite (regAddress r) d) s = .next (writeReg s d r)
    | .w1c =>
      ∃ e, exec (.regWrite (regAddress r) d) s = .next { s with err := e } ∧
        ∀ b, e.getLsbD b = (s.err.getLsbD b && !d.getLsbD b && decide (b < 10))
    | .rw => exec (.regWrite (regAddress r) d) s = .next (writeReg s d r)

/-- REG_WRITE by address over a whole axis bank: of MODE or FB_TYPE in RUN mode it raises CFG_LOCKED alone, and in CONFIG
mode it stores the low byte of the operand, whatever its value; of the registers at offsets 0x02 to 0x0A it stores the
operand in either mode; and of POS_FB, COUNT, FREQ_CMD, SCALE_RECIP, OLD_SCALE, PREV_CMD and OLD_COUNT, at offsets 0x0B to
0x11, it raises RO_WRITE alone (44_host_ops.md, REG_WRITE; 10_state.md, section 4). -/
def Obligations.RegWriteOfAxisRegisters : Prop :=
  ∀ (s : State) (j : Nat) (a : Axis) (d : FxWord), s.cfg.wellFormed = true → j < s.cfg.J → s.axes[j]? = some a →
    (∀ o ∈ [0x00, 0x01], s.coreMode = .run →
      exec (.regWrite (BitVec.ofNat 16 (0x1000 + 0x20 * j + o)) d) s = .next { s with err := s.err ||| 0x10 }) ∧
    (∀ x ∈ ([(0x00, { a with mode := d.setWidth 8 }), (0x01, { a with fbType := d.setWidth 8 })] : List (Nat × Axis)),
      s.coreMode = .config →
      exec (.regWrite (BitVec.ofNat 16 (0x1000 + 0x20 * j + x.1)) d) s = .next { s with axes := s.axes.set j x.2 }) ∧
    (∀ x ∈ ([(0x02, { a with enable := d.getLsbD 0 }), (0x03, { a with scale := d }), (0x04, { a with pgain := d }),
        (0x05, { a with ff1gain := d }), (0x06, { a with deadband := d }), (0x07, { a with maxvel := d }),
        (0x08, { a with maxaccel := d }), (0x09, { a with posCmd := d }), (0x0A, { a with velCmd := d })] :
          List (Nat × Axis)),
      exec (.regWrite (BitVec.ofNat 16 (0x1000 + 0x20 * j + x.1)) d) s = .next { s with axes := s.axes.set j x.2 }) ∧
    (∀ o ∈ [0x0B, 0x0C, 0x0D, 0x0E, 0x0F, 0x10, 0x11],
      exec (.regWrite (BitVec.ofNat 16 (0x1000 + 0x20 * j + o)) d) s = .next { s with err := s.err ||| 0x8 })

/-- REG_WRITE by address of every global and channel register, in either mode: LINK_ENABLE, LINK_RESET, HW_RESET_IN,
SETPOINT[n] and DOUT[k] store the operand truncated to their width; ERR loses the bits that are 1 in the operand, its bits
31:10 being 0; and every other one, among them HW_RESET_OUT, LAST_RX_TAG, PV[m], DIN[k] and DIN_NOT[k], raises RO_WRITE
alone (44_host_ops.md, REG_WRITE; 10_state.md, section 3). -/
def Obligations.RegWriteOfGlobalsAndChannels : Prop :=
  ∀ (s : State) (d : FxWord), s.cfg.wellFormed = true →
    let roWrite : Host.Outcome State Fault Refusal := .next { s with err := s.err ||| 0x8 }
    exec (.regWrite 0x0002 d) s = .next { s with linkEnable := d.getLsbD 0 } ∧
    exec (.regWrite 0x0003 d) s = .next { s with linkReset := d.getLsbD 0 } ∧
    exec (.regWrite 0x0006 d) s = .next { s with hwResetIn := d.getLsbD 0 } ∧
    exec (.regWrite 0x0001 d) s = .next { s with err := s.err &&& ~~~(d.setWidth 32) &&& 0x3FF } ∧
    (∀ a ∈ [0x0000, 0x0004, 0x0005, 0x0007, 0x0008, 0x0009, 0x000A, 0x000B, 0x000C, 0x000D, 0x000E],
      exec (.regWrite (BitVec.ofNat 16 a) d) s = roWrite) ∧
    (∀ n < s.cfg.N,
      exec (.regWrite (BitVec.ofNat 16 (0x0100 + n)) d) s =
        .next { s with setpoint := s.setpoint.set n (d.setWidth 32) }) ∧
    (∀ m < s.cfg.M, exec (.regWrite (BitVec.ofNat 16 (0x0200 + m)) d) s = roWrite) ∧
    (∀ k < s.cfg.K,
      exec (.regWrite (BitVec.ofNat 16 (0x0300 + k)) d) s = .next { s with dout := s.dout.set k (d.getLsbD 0) } ∧
        exec (.regWrite (BitVec.ofNat 16 (0x0400 + k)) d) s = roWrite ∧
        exec (.regWrite (BitVec.ofNat 16 (0x0500 + k)) d) s = roWrite)

/-- R140: NOP changes nothing, in either mode, and the only CMD word of NOP is 0x00000000. -/
def Obligations.NopChangesNothing : Prop :=
  (∀ s : State, exec .nop s = .next s) ∧
    ∀ (cmd : Word32) (d : FxWord), decode cmd d = .instr .nop ↔ cmd = 0x00000000

/-- R139: INIT in RUN mode changes nothing; in CONFIG mode it enters RUN mode when every axis has MODE and FB_TYPE 0 or
1, and otherwise raises CFG_ERR and changes nothing else. -/
def Obligations.InitChecksTheTags : Prop :=
  ∀ s : State,
    if s.coreMode = .run then exec .init s = .next s
    else if ∃ a ∈ s.axes, 1 < a.mode.toNat ∨ 1 < a.fbType.toNat then
      exec .init s = .next { s with err := s.err ||| 0x1 }
    else exec .init s = .next { s with coreMode := .run }

/-! ## Errors and modes -/

/-- Raising an error sets the bit of its code, leaves every other bit, and changes nothing else; a bit that is set stays
set (60_exceptions.md, section 1). -/
def Obligations.RaiseSetsOneErrBit : Prop :=
  ∀ (s : State) (c : ErrCause),
    (∀ b, (raise c s).err.getLsbD b = (s.err.getLsbD b ||
      decide (b = match c with
        | .cfgErr => 0 | .illegalCmd => 1 | .badAddr => 2 | .roWrite => 3 | .cfgLocked => 4 | .notRun => 5
        | .periodErr => 6 | .estop => 7 | .badTag => 8 | .xferFail => 9))) ∧
    { raise c s with err := s.err } = s

/-- Each operation raises at most one error, and only one of those that 60_exceptions.md gives it; an operation changes
ERR in no other way but by a REG_WRITE to its address 0x0001 (60_exceptions.md, section 1). So ERR bits are sticky. -/
def Obligations.EachOperationRaisesOnlyItsErrors : Prop :=
  ∀ (i : Instr) (s t : State), writesTo 0x0001 i = false → exec i s = .next t →
    t.err = s.err ∨
      ∃ c ∈ (match i with
          | .nop => []
          | .init => [0]
          | .cmdgen _ => [5, 6]
          | .linkWrite => [5, 7, 8, 9]
          | .linkRead => [5]
          | .regWrite _ _ => [2, 3, 4]
          | .regRead _ => [2] : List Nat),
        t.err = s.err ||| (1#32 <<< c)

/-- CMDGEN, LINK_WRITE and LINK_READ in CONFIG mode raise NOT_RUN alone, CMDGEN even with a period that is not positive;
CMDGEN in RUN mode with a period that is not positive raises PERIOD_ERR alone (60_exceptions.md, section 1). -/
def Obligations.RefusedOperationsChangeOnlyErr : Prop :=
  ∀ (s : State) (period : Word32),
    (s.coreMode = .config → ∀ i ∈ [Instr.cmdgen period, .linkWrite, .linkRead],
      exec i s = .next { s with err := s.err ||| 0x20 }) ∧
    (s.coreMode = .run → period.toInt ≤ 0 → exec (.cmdgen period) s = .next { s with err := s.err ||| 0x40 })

/-- The modes: CONFIG mode is left only by an INIT that finds every tag 0 or 1, and RUN mode only by a falling RST_N
(60_exceptions.md, section 3). -/
def Obligations.ModesChangeOnlyByInitAndReset : Prop :=
  ∀ s t : State, step s = .next t →
    (s.coreMode = .config → t.coreMode = .run →
      (∃ c es, s.host.events = .command c :: es ∧ decode c.cmd c.dataIn = .instr .init) ∧
        ∀ a ∈ s.axes, a.tagsLegal) ∧
    (s.coreMode = .run → t.coreMode = .config →
      ∃ es, s.host.events = .rstLow :: es ∨ ∃ c, s.host.events = .commandCut c :: es)

/-! ## CMDGEN -/

/-- CMDGEN in RUN mode with a positive period completes: the tick constants are recomputed exactly when the period is
not OLD_PERIOD, then every axis takes its step with them; nothing else changes (41_cmdgen.md, CMDGEN). -/
def Obligations.CmdgenStepsEveryAxis : Prop :=
  ∀ (s : State) (period : Word32), s.coreMode = .run → 0 < period.toInt → (∀ a ∈ s.axes, a.mode.toNat ≤ 1) →
    ∃ dt recipDt,
      (if period = s.oldPeriod then dt = s.dt ∧ recipDt = s.recipDt
        else
          dt = fxWord (fxSat (tdiv (period.toInt * 2 ^ 64) 1000000000)) ∧
          recipDt = fxWord (fxDiv (2 ^ 64) (fxSat (tdiv (period.toInt * 2 ^ 64) 1000000000)))) ∧
      exec (.cmdgen period) s = .next { s with
        oldPeriod := period
        dt := dt
        recipDt := recipDt
        axes := s.axes.map (axisStep ((s.cfg.baseFreqHz : Int) * 2 ^ 63) dt.toInt recipDt.toInt) }

/-- For every positive period the tick duration is positive and exact to the raw unit below, and its reciprocal is
positive: no division by zero (41_cmdgen.md, CMDGEN corner case (d)). -/
def Obligations.TickConstantsArePositive : Prop :=
  ∀ period : Int, 0 < period → period < 2 ^ 31 →
    0 < tickSeconds period ∧ tickSeconds period * 1000000000 ≤ period * 2 ^ 64 ∧
      period * 2 ^ 64 < (tickSeconds period + 1) * 1000000000 ∧ 0 < fxDiv (2 ^ 64) (tickSeconds period) ∧
      fxVal (fxWord (tickSeconds period)) = tickSeconds period

/-- R108: the scale change of the axis step: an unchanged SCALE recomputes nothing; a SCALE of 0 becomes 1.0 with the
reciprocal 1.0; any other new SCALE is kept, negative or not, and its reciprocal cached; abs_s is the magnitude of the
SCALE so left; and where OLD_SCALE was not 0, neither SCALE nor OLD_SCALE is 0 after it. -/
def Obligations.ScaleChangeIsDetected : Prop :=
  ∀ (mf dt recipDt : Int) (a : Axis),
    let b := axisStep mf dt recipDt a
    (if a.scale = a.oldScale then b.scale = a.scale ∧ b.oldScale = a.oldScale ∧ b.scaleRecip = a.scaleRecip
      else if a.scale = 0 then
        b.scale = 0x10000000000000000 ∧ b.oldScale = 0x10000000000000000 ∧ b.scaleRecip = 0x10000000000000000
      else
        b.scale = a.scale ∧ b.oldScale = a.scale ∧
          b.scaleRecip = BitVec.ofInt 128 (fxDiv (2 ^ 64) a.scale.toInt)) ∧
    absScale a = fxAbs b.scale.toInt ∧ (a.oldScale ≠ 0 → b.scale ≠ 0 ∧ b.oldScale ≠ 0)

/-- R109: a negative PGAIN, FF1GAIN or DEADBAND becomes 0 and any other is kept. -/
def Obligations.NegativeTunablesBecomeZero : Prop :=
  ∀ (mf dt recipDt : Int) (a : Axis),
    let b := axisStep mf dt recipDt a
    b.pgain = (if a.pgain.toInt < 0 then 0 else a.pgain) ∧
      b.ff1gain = (if a.ff1gain.toInt < 0 then 0 else a.ff1gain) ∧
      b.deadband = (if a.deadband.toInt < 0 then 0 else a.deadband)

/-- The frame of the axis step: MODE, FB_TYPE, ENABLE, POS_CMD, VEL_CMD, POS_FB, COUNT and OLD_COUNT are not written,
and PREV_CMD samples POS_CMD in Position mode only (41_cmdgen.md, CMDGEN "Registers written", S5). -/
def Obligations.AxisStepWritesOnlyItsRegisters : Prop :=
  ∀ (mf dt recipDt : Int) (a : Axis),
    let b := axisStep mf dt recipDt a
    b.mode = a.mode ∧ b.fbType = a.fbType ∧ b.enable = a.enable ∧ b.posCmd = a.posCmd ∧ b.velCmd = a.velCmd ∧
      b.posFb = a.posFb ∧ b.count = a.count ∧ b.oldCount = a.oldCount ∧
      b.prevCmd = (if a.mode = 0 then a.posCmd else a.prevCmd)

/-- R110 and R111: MF_HW is exactly half the base frequency; the two-way clamps of MAXVEL against it and of MAXACCEL
against the frequency ceiling divided by the tick, with the ceilings that bind. -/
def Obligations.UserLimitsAreClampedBothWays : Prop :=
  ∀ (p : Params) (dt recipDt : Int) (a : Axis),
    let b := axisStep (mfHw p) dt recipDt a
    let absS := fxAbs b.scale.toInt
    let mf := (velocityCeiling (mfHw p) a).2
    let top := fxMul mf recipDt
    let mac := (accelCeiling (mfHw p) recipDt a).2
    2 * mfHw p = (p.baseFreqHz : Int) * 2 ^ 64 ∧
    (if a.maxvel.toInt ≤ 0 then b.maxvel = 0 ∧ mf = mfHw p
      else if fxMul a.maxvel.toInt absS > mfHw p then
        b.maxvel = BitVec.ofInt 128 (fxDiv (mfHw p) absS) ∧ mf = mfHw p
      else b.maxvel = a.maxvel ∧ mf = fxMul a.maxvel.toInt absS) ∧
    (if a.maxaccel.toInt ≤ 0 then b.maxaccel = 0 ∧ mac = top
      else if fxMul a.maxaccel.toInt absS > top then b.maxaccel = BitVec.ofInt 128 (fxDiv top absS) ∧ mac = top
      else b.maxaccel = a.maxaccel ∧ mac = fxMul a.maxaccel.toInt absS)

/-- The control laws: in Position mode P+FF with gains and deadband that are "unset" at 0, in Velocity mode VEL_CMD itself
(41_cmdgen.md, S5). -/
def Obligations.ControlLawsGiveTheVelocity : Prop :=
  ∀ (recipDt : Int) (a : Axis),
    (a.mode = 0 →
      let pg := if a.pgain.toInt = 0 then 2 ^ 64 else a.pgain.toInt
      let ff := if a.ff1gain.toInt = 0 then 2 ^ 64 else a.ff1gain.toInt
      let db := if a.deadband.toInt = 0 then fxAbs a.scaleRecip.toInt else a.deadband.toInt
      let e0 := fxSub a.posCmd.toInt a.posFb.toInt
      let err := if e0 > db then fxSub e0 db else if e0 < fxNeg db then fxAdd e0 db else 0
      let deriv := fxMul (fxSub a.posCmd.toInt a.prevCmd.toInt) recipDt
      controlVelocity recipDt a = fxAdd (fxMul pg err) (fxMul deriv ff)) ∧
    (a.mode = 1 → controlVelocity recipDt a = a.velCmd.toInt)

/-- The deadband law of RIO §8: an error within the band, its edges included, becomes exactly 0; one outside loses the
band, with no saturation (41_cmdgen.md, S5). -/
def Obligations.DeadbandZeroesTheBand : Prop :=
  ∀ db err : Int, 0 ≤ db → db < 2 ^ 127 → -2 ^ 127 ≤ err → err < 2 ^ 127 →
    (-db ≤ err → err ≤ db → deadbandLaw db err = 0) ∧
    (db < err → deadbandLaw db err = err - db) ∧
    (err < -db → deadbandLaw db err = err + db)

/-- R114, R115 and R116: velocity to frequency clamped to the ceiling, the slew limit from the previous frequency, and
the enable override, for the axis step as a whole; and the slew limit is not negative. -/
def Obligations.FrequencyIsClampedSlewedAndGated : Prop :=
  ∀ (mfHw dt recipDt : Int) (a : Axis),
    let b := axisStep mfHw dt recipDt a
    let mf := (velocityCeiling mfHw a).2
    let dv := fxMul (accelCeiling mfHw recipDt a).2 dt
    let raw := fxMul (controlVelocity recipDt (clampedAxis mfHw recipDt a)) b.scale.toInt
    let tgt := if raw > mf then mf else if raw < fxNeg mf then fxNeg mf else raw
    let f := a.freqCmd.toInt
    let nf := if tgt > fxAdd f dv then fxAdd f dv else if tgt < fxSub f dv then fxSub f dv else tgt
    b.freqCmd = (if a.enable then BitVec.ofInt 128 nf else 0) ∧ (0 ≤ mfHw → 0 ≤ dt → 0 ≤ recipDt → 0 ≤ dv)

/-- The hardware ceiling (41_cmdgen.md, laws (a)): an axis whose frequency is within MF_HW stays within it, enabled or
not, whatever its other registers hold. -/
def Obligations.AxisStepKeepsTheHardwareCeiling : Prop :=
  ∀ (p : Params) (dt recipDt : Int) (a : Axis), p.wellFormed = true → 0 ≤ dt → 0 ≤ recipDt → a.freqBounded p →
    (axisStep (mfHw p) dt recipDt a).freqBounded p

/-- The slew bound and the velocity bound (41_cmdgen.md, laws (b) and (c)): an enabled axis changes its frequency by at
most dv, and if its frequency was within the ceiling mf of this tick it stays within it. -/
def Obligations.EnabledAxisIsSlewLimited : Prop :=
  ∀ (p : Params) (dt recipDt : Int) (a : Axis), p.wellFormed = true → 0 ≤ dt → 0 ≤ recipDt → a.enable = true →
    let b := axisStep (mfHw p) dt recipDt a
    let dv := axisSlew (mfHw p) dt recipDt a
    let mf := (velocityCeiling (mfHw p) a).2
    (fxVal b.freqCmd - fxVal a.freqCmd ≤ dv ∧ fxVal a.freqCmd - fxVal b.freqCmd ≤ dv) ∧
      (-mf ≤ fxVal a.freqCmd → fxVal a.freqCmd ≤ mf → -mf ≤ fxVal b.freqCmd ∧ fxVal b.freqCmd ≤ mf)

/-- After every CMDGEN that runs, no axis has SCALE = 0 or a negative tunable, and a MAXVEL that is not 0 satisfies the
hardware ceiling (41_cmdgen.md, laws (d) and (e)). -/
def Obligations.CmdgenLeavesLegalTunables : Prop :=
  ∀ (s t : State) (period : Word32), s.Inv → s.coreMode = .run → 0 < period.toInt →
    exec (.cmdgen period) s = .next t → ∀ a ∈ t.axes,
      a.scale ≠ 0 ∧ 0 ≤ a.pgain.toInt ∧ 0 ≤ a.ff1gain.toInt ∧ 0 ≤ a.deadband.toInt ∧ 0 ≤ a.maxvel.toInt ∧
        0 ≤ a.maxaccel.toInt ∧ fxMul a.maxvel.toInt (fxAbs a.scale.toInt) ≤ mfHw s.cfg

/-- Axis independence (41_cmdgen.md, axis independence): two cores that agree on one axis, on the tick constants and on
BASE_FREQ_HZ agree on that axis after the same CMDGEN, whatever the other axes hold. -/
def Obligations.AxesAreIndependent : Prop :=
  ∀ (s s' t t' : State) (period : Word32) (j : Nat),
    s.coreMode = s'.coreMode → s.cfg.baseFreqHz = s'.cfg.baseFreqHz → s.oldPeriod = s'.oldPeriod → s.dt = s'.dt →
    s.recipDt = s'.recipDt → s.axes[j]? = s'.axes[j]? →
    exec (.cmdgen period) s = .next t → exec (.cmdgen period) s' = .next t' → t.axes[j]? = t'.axes[j]?

/-! ## LINK_WRITE -/

/-- LINK_WRITE in RUN mode always completes, whatever the remote end answers: HW_RESET_OUT copies HW_RESET_IN, PREV_RESET
records LINK_RESET, ATTEMPT_COUNT counts an attempt, and no register outside "Registers written" changes
(42_link_write.md, LINK_WRITE). -/
def Obligations.LinkWriteCompletes : Prop :=
  ∀ s : State, s.coreMode = .run →
    ∃ t, exec .linkWrite s = .next t ∧ t.hwResetOut = s.hwResetIn ∧ t.prevReset = s.linkReset ∧
      t.attemptCount = (if s.linkEnable = true ∧ ((s.linkReset = true ∧ s.prevReset = false) ∨ s.linkStatus = true)
        then s.attemptCount + 1 else s.attemptCount) ∧
      t.cfg = s.cfg ∧ t.host = s.host ∧ t.coreMode = s.coreMode ∧ t.linkEnable = s.linkEnable ∧
      t.linkReset = s.linkReset ∧ t.hwResetIn = s.hwResetIn ∧ t.dt = s.dt ∧ t.recipDt = s.recipDt ∧
      t.oldPeriod = s.oldPeriod ∧ t.setpoint = s.setpoint ∧ t.pv = s.pv ∧ t.dout = s.dout ∧ t.din = s.din ∧
      t.dinNot = s.dinNot ∧ t.dataOut = s.dataOut ∧ t.axes = s.axes

/-- The framer: after every LINK_WRITE in RUN mode, sent or not, TXBUF holds the outbound packet of the registers, field
by field and padded to L, at every offset; and no byte outside it (30_encoding.md, section 3; 42_link_write.md, BuildTx). -/
def Obligations.TxbufHoldsTheOutboundPacket : Prop :=
  ∀ s t : State, s.Inv → s.coreMode = .run → exec .linkWrite s = .next t →
    memBytes t.txbuf (exchangeLen s.cfg) = outboundPacket s ∧
      ∀ a, exchangeLen s.cfg ≤ a → memReadByte t.txbuf a = memReadByte s.txbuf a

/-- Bitfields: ceil(n / 8) bytes; item i is bit (i mod 8) of byte (i div 8); the bits above the last item are 0
(20_memory.md, section 3; 30_encoding.md, section 5). -/
def Obligations.BitfieldsHoldOneBitPerItem : Prop :=
  ∀ items : List Bool,
    (bitfield items).length = (items.length + 7) / 8 ∧
      ∀ b < (items.length + 7) / 8, ∀ i < 8,
        ((bitfield items).getD b 0).getLsbD i = items.getD (8 * b + i) false

/-- R94: the frequency word is the truncated ratio, clamped to the signed 32-bit range; within the hardware ceiling the
clamp changes FREQ_CMD = +BASE_FREQ_HZ / 2 alone, which gives 0x7FFFFFFF. -/
def Obligations.FrequencyWordIsTheRatio : Prop :=
  ∀ (p : Params) (f : FxWord), p.wellFormed = true →
    let ratio := (f.toInt * 2 ^ 32).tdiv ((p.baseFreqHz : Int) * 2 ^ 64)
    (freqWord p f).toInt = max (-2 ^ 31) (min (2 ^ 31 - 1) ratio) ∧
      (-mfHw p ≤ f.toInt → f.toInt ≤ mfHw p →
        (f.toInt ≠ mfHw p → (freqWord p f).toInt = ratio) ∧ (f.toInt = mfHw p → freqWord p f = 0x7FFFFFFF))

/-- The handshake table (42_link_write.md, the handshake state machine): in which states LINK_WRITE makes an exchange,
and the state and status after it in every row. That an exchange is made is read from the model's own
counter of exchanges (log 3), that none is from the link side with its record (log 9). -/
def Obligations.HandshakeFollowsItsTable : Prop :=
  ∀ s t : State, s.Inv → s.coreMode = .run → exec .linkWrite s = .next t →
    (s.linkEnable = false →
      t.hsState = .disabled ∧ t.linkStatus = false ∧ t.link = s.link ∧ t.rxbuf = s.rxbuf ∧ t.err = s.err ∧
        t.lastRxTag = s.lastRxTag ∧ t.rxFresh = false) ∧
    (s.linkEnable = true → s.linkStatus = false → ¬ (s.linkReset = true ∧ s.prevReset = false) →
      t.hsState = (if s.hsState = .disabled then .armed else s.hsState) ∧ t.linkStatus = false ∧ t.link = s.link ∧
        t.rxbuf = s.rxbuf ∧ t.err = s.err ∧ t.lastRxTag = s.lastRxTag ∧ t.rxFresh = false) ∧
    (s.linkEnable = true → (s.linkStatus = true ∨ (s.linkReset = true ∧ s.prevReset = false)) →
      t.link.exchanges = s.link.exchanges + 1 ∧
        ((t.hsState = .active ∧ t.linkStatus = true) ∨ (t.hsState = .fault ∧ t.linkStatus = false)))

/-- Classify: what an attempted LINK_WRITE does with each answer the remote end can give, an L-byte stream or ABORT
(42_link_write.md, Exchange and Classify; 00_scope.md, the oracle). The list of answers is the model's (log 3). -/
def Obligations.AnswersAreClassified : Prop :=
  ∀ (s t : State) (rest : List RemoteAnswer), s.coreMode = .run → s.linkEnable = true →
    (s.linkStatus = true ∨ (s.linkReset = true ∧ s.prevReset = false)) → exec .linkWrite s = .next t →
    (s.link.answers = .abort :: rest →
      t.linkStatus = false ∧ t.hsState = .fault ∧ t.rxFresh = false ∧ t.err = s.err ||| 0x200 ∧ t.rxbuf = s.rxbuf ∧
        t.lastRxTag = s.lastRxTag ∧ t.link.answers = rest) ∧
    (∀ (b0 b1 b2 b3 : Byte) (bs : List Byte),
      s.link.answers = .complete (b0 :: b1 :: b2 :: b3 :: bs) :: rest → bs.length + 4 = exchangeLen s.cfg →
      memBytes t.rxbuf (exchangeLen s.cfg) = b0 :: b1 :: b2 :: b3 :: bs ∧ t.link.answers = rest ∧
        t.lastRxTag = b3 ++ b2 ++ b1 ++ b0 ∧
        (if t.lastRxTag = s.cfg.tagData then
            t.linkStatus = true ∧ t.hsState = .active ∧ t.rxFresh = true ∧ t.err = s.err
          else
            t.linkStatus = false ∧ t.hsState = .fault ∧ t.rxFresh = false ∧
              t.err = s.err ||| (if t.lastRxTag = s.cfg.tagEstop then 0x80 else 0x100)))

/-- After a LINK_WRITE in RUN mode, LINK_STATUS is 1 only if this LINK_WRITE exchanged and received TAG_DATA, and then
LINK_ENABLE was 1; with LINK_ENABLE = 0 it is 0; and every exchange ends in Active with no error, or in Fault with exactly
one of ESTOP, BAD_TAG, XFER_FAIL raised (42_link_write.md, laws (b) to (d); 10_state.md, invariant (e)). That an exchange is made is
read from the model's own counter of exchanges (log 3). -/
def Obligations.StatusMeansDataThisTick : Prop :=
  ∀ s t : State, s.coreMode = .run → exec .linkWrite s = .next t →
    (t.linkStatus = true → s.linkEnable = true ∧ t.link.exchanges = s.link.exchanges + 1 ∧
      t.lastRxTag = s.cfg.tagData ∧ t.rxFresh = true ∧ t.hsState = .active ∧ t.err = s.err) ∧
    (s.linkEnable = false → t.linkStatus = false) ∧
    (t.link.exchanges = s.link.exchanges + 1 → t.linkStatus = false →
      t.hsState = .fault ∧ t.rxFresh = false ∧
        (t.err = s.err ||| 0x80 ∨ t.err = s.err ||| 0x100 ∨ t.err = s.err ||| 0x200))

/-- Handshake idempotence (42_link_write.md, laws (a); 70_reset_and_hazards.md, section 3). One operation: LINK_STATUS = 0
with no rising edge of LINK_RESET to see is kept by every operation but a REG_WRITE of a 1 to LINK_RESET, and nothing is
exchanged. Any sequence of operations, whatever it writes to LINK_RESET: once LINK_STATUS is 0, no exchange is attempted as
long as no LINK_WRITE of it, in RUN mode with LINK_ENABLE = 1, sees a rising edge; so a pulse that rises and falls between
two LINK_WRITEs is not seen. That nothing is exchanged is said of ATTEMPT_COUNT, RXBUF and the link side, with the model's
own record of it (logs 3 and 9). -/
def Obligations.NoExchangeWithoutAResetEdge : Prop :=
  (∀ (i : Instr) (s t : State), s.linkStatus = false → ¬ (s.linkReset = true ∧ s.prevReset = false) →
    (∀ d, i = .regWrite 0x0003 d → d.getLsbD 0 = false) → exec i s = .next t →
      t.linkStatus = false ∧ ¬ (t.linkReset = true ∧ t.prevReset = false) ∧
        t.link = s.link ∧ t.attemptCount = s.attemptCount ∧ t.rxbuf = s.rxbuf) ∧
  (∀ (is : List Instr) (s t : State), s.linkStatus = false →
    (∀ before after u, is = before ++ .linkWrite :: after → execAll before s = .next u →
      ¬ (u.coreMode = .run ∧ u.linkEnable = true ∧ u.linkReset = true ∧ u.prevReset = false)) →
    execAll is s = .next t →
      t.linkStatus = false ∧ t.link = s.link ∧ t.attemptCount = s.attemptCount ∧ t.rxbuf = s.rxbuf)

/-- Recovery (42_link_write.md, recovery): from a stopped link with LINK_ENABLE = 1, writing LINK_RESET = 0, one
LINK_WRITE, writing LINK_RESET = 1 and one more LINK_WRITE makes exactly one exchange. The counter of exchanges is the model's own (log 3). -/
def Obligations.ResetEdgeRearmsTheLink : Prop :=
  ∀ s : State, s.coreMode = .run → s.linkEnable = true → s.linkStatus = false → s.cfg.wellFormed = true →
    ∃ t, execAll [.regWrite 0x0003 0, .linkWrite, .regWrite 0x0003 1, .linkWrite] s = .next t ∧
      t.link.exchanges = s.link.exchanges + 1 ∧ t.attemptCount = s.attemptCount + 1

/-- What the core drives on the link: one attempted LINK_WRITE adds one frame, LINK_CS_N low first and high last, whose
sampled MOSI bits (8 * L of them, most significant bit of each byte first) or strobed words (ceil(L / 4) of them, the
byte at the lowest offset in the low bits) are TXBUF; and the framing signal, the clock and the strobe are idle after it
(42_link_write.md, the two framings; 20_memory.md, section 3). The record of frames is the model's (log 9), and so are the
order of the data and the clock or strobe edges in it and that an aborted frame is a whole one (log 14). -/
def Obligations.TheFrameCarriesTxbuf : Prop :=
  ∀ (s t : State) (b : Bool) (w : Word32), s.coreMode = .run → s.linkEnable = true →
    (s.linkStatus = true ∨ (s.linkReset = true ∧ s.prevReset = false)) → exec .linkWrite s = .next t →
    ∃ body, t.link.frames = s.link.frames ++ [.csN false :: (body ++ [.csN true])] ∧
      t.link.csN = true ∧ t.link.sclk = false ∧ t.link.wstb = false ∧
      match s.cfg.transport with
      | .byteSerial =>
        (mosiSamples b body).length = 8 * exchangeLen s.cfg ∧
          ∀ i < exchangeLen s.cfg, ∀ k < 8,
            (mosiSamples b body)[8 * i + k]? = some ((memReadByte t.txbuf i).getLsbD (7 - k))
      | .wordParallel =>
        (wdoSamples w body).length = (exchangeLen s.cfg + 3) / 4 ∧
          ∀ i < (exchangeLen s.cfg + 3) / 4, ∀ k < 4,
            ((wdoSamples w body).getD i 0).extractLsb' (8 * k) 8 =
              if 4 * i + k < exchangeLen s.cfg then memReadByte t.txbuf (4 * i + k) else 0

/-- Both transports carry the same byte stream: what the core captures is what the remote end sent, byte for byte
(20_memory.md, section 3; 42_link_write.md, the two framings). -/
def Obligations.BothTransportsCaptureTheStream : Prop :=
  ∀ (t : Transport) (rx : List Byte), captureStream t rx = rx

/-! ## LINK_READ -/

/-- LINK_READ of a fresh packet in RUN mode completes: every axis is decoded from its raw counter, PV, DIN and DIN_NOT
are unpacked, RX_FRESH is cleared, and nothing else changes (43_feedback_read.md, LINK_READ). -/
def Obligations.LinkReadDecodesTheFreshPacket : Prop :=
  ∀ s : State, s.coreMode = .run → s.rxFresh = true → (∀ a ∈ s.axes, a.fbType.toNat ≤ 1) →
    exec .linkRead s = .next { s with
      axes := s.axes.mapIdx fun j a =>
        let raw := BitVec.ofNat 32 (memRead s.rxbuf (4 + 4 * j) 4)
        if a.fbType = 0 then decodeAbsolute raw a else decodeIncremental raw a
      pv := (List.range s.cfg.M).map fun m => BitVec.ofNat 32 (memRead s.rxbuf (4 + 4 * s.cfg.J + 4 * m) 4)
      din := (List.range s.cfg.K).map fun k =>
        (memReadByte s.rxbuf (4 + 4 * s.cfg.J + 4 * s.cfg.M + k / 8)).getLsbD (k % 8)
      dinNot := (List.range s.cfg.K).map fun k =>
        !(memReadByte s.rxbuf (4 + 4 * s.cfg.J + 4 * s.cfg.M + k / 8)).getLsbD (k % 8)
      rxFresh := false }

/-- LINK_READ in RUN mode with no fresh packet changes nothing, so a packet is never accumulated twice, and after an
attempted LINK_WRITE that did not end with LINK_STATUS = 1 a LINK_READ leaves every feedback register as it was before
the two (43_feedback_read.md, LINK_READ corner cases (a) and (b); RIO §8's e-stop scenario). -/
def Obligations.OneDecodePerFreshPacket : Prop :=
  (∀ s : State, s.coreMode = .run → s.rxFresh = false → exec .linkRead s = .next s) ∧
  (∀ s t : State, s.coreMode = .run → exec .linkRead s = .next t → exec .linkRead t = .next t) ∧
  (∀ s t : State, s.coreMode = .run → exec .linkWrite s = .next t → t.linkStatus = false →
    ∃ u, exec .linkRead t = .next u ∧ u.axes = s.axes ∧ u.pv = s.pv ∧ u.din = s.din ∧ u.dinNot = s.dinNot)

/-- R131: an Absolute decode publishes raw / scale, a SCALE of 0 acting as 1.0, and writes no
other register of the axis. -/
def Obligations.AbsoluteFeedbackIsRawOverScale : Prop :=
  ∀ (raw : Word32) (a : Axis),
    decodeAbsolute raw a = { a with
      posFb := BitVec.ofInt 128 (fxDiv (raw.toInt * 2 ^ 64) (if a.scale = 0 then 2 ^ 64 else a.scale.toInt)) }

/-- R132: an Incremental decode adds the wrapped 32-bit difference into the 64-bit accumulator, remembers the raw value,
and publishes (accumulator + 0.5) / scale, a SCALE of 0 acting as 1.0; it writes no other register of the axis, and the
numerator needs no saturation. -/
def Obligations.IncrementalFeedbackAccumulates : Prop :=
  ∀ (raw : Word32) (a : Axis),
    let count := a.count + (raw - a.oldCount).signExtend 64
    let num := count.toInt * 2 ^ 64 + 2 ^ 63
    decodeIncremental raw a = { a with
      count := count
      oldCount := raw
      posFb := BitVec.ofInt 128 (fxDiv num (if a.scale = 0 then 2 ^ 64 else a.scale.toInt)) } ∧
    -2 ^ 127 ≤ num ∧ num ≤ 2 ^ 127 - 1

/-- The accumulator is rollover-safe (43_feedback_read.md, laws (a)): if the true displacement of each packet lies within
-2^31 to 2^31 - 1 and each raw value is the last one plus it, wrapped to 32 bits, then COUNT ends at the old COUNT plus
the sum of the displacements, wrapped to 64 bits. -/
def Obligations.AccumulatorIsRolloverSafe : Prop :=
  ∀ (ds : List Int) (raws : List Word32) (a : Axis), (∀ d ∈ ds, -2 ^ 31 ≤ d ∧ d < 2 ^ 31) →
    raws.length = ds.length →
    (∀ i < ds.length, raws.getD i 0 = (if i = 0 then a.oldCount else raws.getD (i - 1) 0) + BitVec.ofInt 32 (ds.getD i 0)) →
    (decodeAll a raws).count = BitVec.ofInt 64 (a.count.toInt + ds.sum)

/-! ## The packet spaces -/

/-- MemWrite stores the bytes of a value little-endian and leaves every other byte; MemRead assembles them
little-endian; and a packet space in canonical form stays in it (20_memory.md, section 3). The canonical form is the model's
representation of a packet space (log 8). -/
def Obligations.PacketFieldsAreLittleEndian : Prop :=
  ∀ (m : Memory) (a v x : Nat), m.wf = true →
    (memWrite m a 4 v).wf = true ∧
      memReadByte (memWrite m a 4 v) x =
        (if a ≤ x ∧ x < a + 4 then BitVec.ofNat 8 (v / 2 ^ (8 * (x - a))) else memReadByte m x) ∧
      memRead (memWrite m a 4 v) a 4 = v % 2 ^ 32 ∧
      memRead m a 4 =
        (memReadByte m (a + 3) ++ memReadByte m (a + 2) ++ memReadByte m (a + 1) ++ memReadByte m a).toNat

/-- RXBUF is unobservable while RX_FRESH is 0 (90_conflicts.md C11): an operation on two cores that differ in RXBUF alone
gives two cores that differ at most in RXBUF, and not even there once RX_FRESH is 1. -/
def Obligations.StaleRxbufIsUnobservable : Prop :=
  ∀ (i : Instr) (s t : State) (m : Memory), s.rxFresh = false → exec i s = .next t →
    ∃ m', exec i { s with rxbuf := m } = .next { t with rxbuf := m' } ∧ (t.rxFresh = true → m' = t.rxbuf)

/-! ## Arithmetic -/

/-- R102 and R105: the truncating division rounds the quotient toward zero (a remainder smaller than the divisor, with the
sign of the dividend); fx_div scales it by 2^64 and saturates; 1.0 divides to the dividend and 0 is divided to 0; where
nothing saturates the sign of either operand is the sign of the quotient; and the totality case of a zero divisor. -/
def Obligations.DivisionTruncatesTowardZero : Prop :=
  ∀ a b : Int,
    (b ≠ 0 →
      tdiv a b = a.sign * b.sign * ((a.natAbs / b.natAbs : Nat) : Int) ∧
      (∃ r, a = b * tdiv a b + r ∧ r.natAbs < b.natAbs ∧ (0 ≤ a → 0 ≤ r) ∧ (a ≤ 0 → r ≤ 0)) ∧
      fxDiv a b = max (-2 ^ 127) (min (2 ^ 127 - 1) (tdiv (a * 2 ^ 64) b)) ∧ fxDiv 0 b = 0 ∧
      ((tdiv (a * 2 ^ 64) b).natAbs < 2 ^ 127 → fxDiv (-a) b = -fxDiv a b ∧ fxDiv a (-b) = -fxDiv a b)) ∧
    (-2 ^ 127 ≤ a → a < 2 ^ 127 → fxDiv a (2 ^ 64) = a) ∧
    fxDiv a 0 = (if a = 0 then 0 else if 0 < a then 2 ^ 127 - 1 else -2 ^ 127)

/-- R104: the exact product truncated toward zero to 64 fraction bits, then saturated; it commutes,
1.0 is its identity, 0 absorbs, and it is sign-symmetric but where it saturates. -/
def Obligations.MultiplicationTruncatesAndSaturates : Prop :=
  ∀ a b : Int,
    fxMul a b = max (-2 ^ 127) (min (2 ^ 127 - 1) ((a * b).tdiv (2 ^ 64))) ∧ fxMul a b = fxMul b a ∧ fxMul a 0 = 0 ∧
      (-2 ^ 127 ≤ a → a < 2 ^ 127 → fxMul a (2 ^ 64) = a) ∧
      ((a * b).natAbs < 2 ^ 64 → fxMul a b = 0) ∧
      ((a * b).natAbs < 2 ^ 191 → fxMul (-a) b = -fxMul a b)

/-- R103: sums, differences, negations and magnitudes of FX values are exact but for saturation at FX_MAX and FX_MIN,
and FX_MIN is the only value whose negation or magnitude saturates. -/
def Obligations.AdditionFamilySaturates : Prop :=
  ∀ a b : Int, -2 ^ 127 ≤ a → a < 2 ^ 127 → -2 ^ 127 ≤ b → b < 2 ^ 127 →
    fxAdd a b = max (-2 ^ 127) (min (2 ^ 127 - 1) (a + b)) ∧ fxSub a b = max (-2 ^ 127) (min (2 ^ 127 - 1) (a - b)) ∧
      fxNeg a = (if a = -2 ^ 127 then 2 ^ 127 - 1 else -a) ∧
      fxAbs a = (if a = -2 ^ 127 then 2 ^ 127 - 1 else if a < 0 then -a else a)

/-! ## Reset -/

/-- R62: a reset, whether RST_N falls between two operations or in the middle of one, sets every piece of state to the
value of the table, whatever the state was and for any parameters. -/
def Obligations.ResetGivesTheTable : Prop :=
  ∀ (s : State) (e : HostEvent) (es : List HostEvent), (e = .rstLow ∨ ∃ c, e = .commandCut c) →
    s.host.events = e :: es → ∃ t, step s = .next t ∧
      t.coreMode = .config ∧ t.err = 0 ∧
      (t.linkEnable = false ∧ t.linkReset = false ∧ t.linkStatus = false) ∧ t.hsState = .disabled ∧
      (t.hwResetIn = false ∧ t.hwResetOut = false) ∧ (t.lastRxTag = 0 ∧ t.attemptCount = 0) ∧
      (t.dt = 0 ∧ t.recipDt = 0 ∧ t.oldPeriod = 0) ∧ (t.prevReset = false ∧ t.rxFresh = false) ∧
      (t.setpoint = List.replicate s.cfg.N 0 ∧ t.pv = List.replicate s.cfg.M 0 ∧
        t.dout = List.replicate s.cfg.K false ∧ t.din = List.replicate s.cfg.K false ∧
        t.dinNot = List.replicate s.cfg.K true) ∧
      (∀ a, memReadByte t.txbuf a = 0 ∧ memReadByte t.rxbuf a = 0) ∧ t.dataOut = 0 ∧ t.axes.length = s.cfg.J ∧
      ∀ a ∈ t.axes, a.mode = 0 ∧ a.fbType = 0 ∧ a.enable = false ∧ a.scale.toInt = 2 ^ 64 ∧
        a.scaleRecip.toInt = 2 ^ 64 ∧ a.oldScale.toInt = 2 ^ 64 ∧ a.pgain = 0 ∧ a.ff1gain = 0 ∧ a.deadband = 0 ∧
        a.maxvel = 0 ∧ a.maxaccel = 0 ∧ a.posCmd = 0 ∧ a.velCmd = 0 ∧ a.posFb = 0 ∧ a.freqCmd = 0 ∧ a.prevCmd = 0 ∧
        a.count = 0 ∧ a.oldCount = 0

/-- Reset by RST_N (70_reset_and_hazards.md, section 1). A falling RST_N, between two operations or in the middle of one,
puts every register and pin at its reset value whatever the state was. While RST_N is 0, in any state, a command is not
accepted: the step takes it off the event list and changes nothing. A rising RST_N changes nothing else. So any number of
commands presented between the fall and the rise leave the core in CONFIG mode at its reset values. The event list (log 2),
and that what the host and the remote end still have to present and the record of the link are kept while a command
presented in reset is dropped (log 4), are the model's choice. -/
def Obligations.ResetOverridesEverything : Prop :=
  ∀ (s : State) (es : List HostEvent),
    let heldLink : LinkPort :=
      { csN := true, sclk := false, mosi := false, wstb := false, wdo := 0, answers := s.link.answers,
        exchanges := s.link.exchanges, frames := s.link.frames }
    (∀ e, (e = .rstLow ∨ ∃ c, e = .commandCut c) → s.host.events = e :: es →
      step s = .next { State.initial s.cfg with
        host := { rstN := false, cmdDone := false, events := es }, link := heldLink }) ∧
    (∀ c, s.host.rstN = false → s.host.events = .command c :: es →
      step s = .next { s with host := { s.host with events := es } }) ∧
    (s.host.events = .rstHigh :: es →
      step s = .next { s with host := { s.host with rstN := true, events := es } }) ∧
    (∀ e (cs : List Command), (e = .rstLow ∨ ∃ c, e = .commandCut c) →
      s.host.events = e :: (cs.map HostEvent.command ++ .rstHigh :: es) →
      Sys2Proof.core.run (cs.length + 2) s = .next { State.initial s.cfg with
        host := { rstN := true, cmdDone := false, events := es }, link := heldLink })

/-! ## The machine as a whole -/

/-- The invariant holds right after reset, for every well-formed choice of the parameters, whatever the host and the
remote end have to present (10_state.md, invariants). -/
def Obligations.InvariantHoldsAtReset : Prop :=
  State.reset.Inv ∧
    ∀ (p : Params) (events : List HostEvent) (answers : List RemoteAnswer), p.wellFormed = true →
      (State.started p events answers).Inv

/-- Every step keeps the invariant, from every state that meets it (10_state.md, invariants). -/
def Obligations.EveryStepKeepsTheInvariant : Prop :=
  ∀ s t : State, s.Inv → step s = .next t → t.Inv

/-- No step from a state that meets the invariant ends in a fault or a refusal: every host event, and every command word,
has its effect (60_exceptions.md, section 1: no error stops the core). With no event to come a step is idle: the model's
choice, log 2. -/
def Obligations.NoStepStopsTheMachine : Prop :=
  ∀ s : State, s.Inv → ∃ t, step s = .next t

/-- Every run of the core, for every choice of the parameters, every sequence of host events and every sequence of
remote answers, goes on for any number of steps and meets the invariant throughout (60_exceptions.md, section 1;
10_state.md, invariants). The event list, and the idle steps after it, are the model's choice, log 2. -/
def Obligations.EveryRunGoesOnForever : Prop :=
  ∀ (p : Params) (events : List HostEvent) (answers : List RemoteAnswer) (k : Nat), p.wellFormed = true →
    ∃ t, Sys2Proof.core.run k (State.started p events answers) = .next t ∧ State.Inv t

/-- R88: the expansions of the pseudo-instructions; and what CLRERR and ENABLE_AXIS then do: the first clears every bit
of ERR, the second sets the ENABLE of its axis, and nothing else changes. -/
def Obligations.PseudoInstructionsExpand : Prop :=
  (∀ period : Int, assemble (.tick period) = assemble (.cmdgen period) ++ assemble .linkWrite ++ assemble .linkRead) ∧
  assemble .clrerr = assemble (.regWrite (.name (.global .err)) (.int 0xFFFFFFFF)) ∧
  (∀ j, assemble (.enableAxis j) = assemble (.regWrite (.name (.axis j .enable)) (.int 1))) ∧
  ∀ (s : State) (j : Nat) (a : Axis), s.cfg.wellFormed = true → j < s.cfg.J → s.axes[j]? = some a →
    execAll (assemble .clrerr) s = .next { s with err := 0 } ∧
      execAll (assemble (.enableAxis j)) s = .next { s with axes := s.axes.set j { a with enable := true } }
end

