-- ==== Sys2Proof/Laws/FixedPoint.lean ====
section
/-! SUPPORT. The small lemmas of the fixed-point arithmetic: its constants as numerals, ranges, order, and the passage
between FX registers and integers. -/

namespace Sys2Proof.Machine

theorem fxOne_eq : fxOne = 18446744073709551616 := by norm_num [fxOne, fxFrac]
theorem fxHalf_eq : fxHalf = 9223372036854775808 := by norm_num [fxHalf, fxFrac]
theorem fxMax_eq : fxMax = 170141183460469231731687303715884105727 := by norm_num [fxMax, fxWidth]
theorem fxMin_eq : fxMin = -170141183460469231731687303715884105728 := by norm_num [fxMin, fxWidth]
theorem epsRaw_eq : epsRaw = 1 := by decide +kernel

/-- An integer of the FX range (R101). -/
def fxInRange (x : Int) : Prop := fxMin ≤ x ∧ x ≤ fxMax

theorem fxSat_inRange (x : Int) : fxInRange (fxSat x) := by
  unfold fxInRange fxSat
  rw [fxMin_eq, fxMax_eq]
  split
  · omega
  · split <;> omega

theorem fxSat_of_inRange {x : Int} (h : fxInRange x) : fxSat x = x := by
  obtain ⟨h1, h2⟩ := h
  unfold fxSat
  rw [if_neg (by omega), if_neg (by omega)]

theorem fxSat_mono {x y : Int} (h : x ≤ y) : fxSat x ≤ fxSat y := by
  unfold fxSat
  rw [fxMin_eq, fxMax_eq]
  repeat' split
  all_goals omega

theorem fxSat_nonneg {x : Int} (h : 0 ≤ x) : 0 ≤ fxSat x := by
  have := fxSat_mono h
  rwa [show fxSat 0 = 0 from by decide] at this

/-- Saturation never moves a value past one that is in range. -/
theorem fxSat_le_of_le {x y : Int} (hy : fxMin ≤ y) (h : x ≤ y) : fxSat x ≤ y := by
  unfold fxSat
  rw [fxMax_eq]
  repeat' split
  all_goals omega

theorem le_fxSat_of_le {x y : Int} (hy : y ≤ fxMax) (h : y ≤ x) : y ≤ fxSat x := by
  unfold fxSat
  rw [fxMin_eq]
  repeat' split
  all_goals omega

theorem fxVal_inRange (w : FxWord) : fxInRange (fxVal w) := by
  unfold fxInRange fxVal
  rw [fxMin_eq, fxMax_eq]
  have h1 := BitVec.le_toInt w
  have h2 := BitVec.toInt_lt (x := w)
  norm_num at h1 h2
  omega

@[simp] theorem fxWord_fxVal (w : FxWord) : fxWord (fxVal w) = w := by simp [fxWord, fxVal]

theorem fxVal_fxWord {x : Int} (h : fxInRange x) : fxVal (fxWord x) = x := by
  obtain ⟨h1, h2⟩ := h
  rw [fxMin_eq] at h1
  rw [fxMax_eq] at h2
  rw [fxVal, fxWord, BitVec.toInt_ofInt]
  rw [Int.bmod_eq_of_le (by norm_num; omega) (by norm_num; omega)]

@[simp] theorem fxVal_zero : fxVal 0 = 0 := by decide

/-- The truncating division is the library's. -/
theorem tdiv_eq (a b : Int) : tdiv a b = a.tdiv b := by
  rcases lt_trichotomy a 0 with ha | rfl | ha <;> rcases lt_trichotomy b 0 with hb | rfl | hb <;>
    simp [tdiv, Int.sign_eq_neg_one_of_neg, Int.sign_eq_one_of_pos, *]
  all_goals
    obtain ⟨n, rfl | rfl⟩ := Int.eq_nat_or_neg a
    all_goals obtain ⟨m, rfl | rfl⟩ := Int.eq_nat_or_neg b
    all_goals first
      | omega
      | simp

theorem tdiv_nonneg {a b : Int} (ha : 0 ≤ a) (hb : 0 ≤ b) : 0 ≤ tdiv a b := by
  rw [tdiv_eq]
  exact Int.tdiv_nonneg ha hb

theorem tdiv_neg_left (a b : Int) : tdiv (-a) b = -tdiv a b := by simp [tdiv_eq]

theorem fxMul_nonneg {a b : Int} (ha : 0 ≤ a) (hb : 0 ≤ b) : 0 ≤ fxMul a b :=
  fxSat_nonneg (tdiv_nonneg (mul_nonneg ha hb) (by rw [fxOne_eq]; norm_num))

theorem fxDiv_nonneg {a b : Int} (ha : 0 ≤ a) (hb : 0 < b) : 0 ≤ fxDiv a b := by
  rw [fxDiv, if_neg (by omega)]
  exact fxSat_nonneg (tdiv_nonneg (mul_nonneg ha (by rw [fxOne_eq]; norm_num)) hb.le)

theorem fxMul_inRange (a b : Int) : fxInRange (fxMul a b) := fxSat_inRange _
theorem fxAdd_inRange (a b : Int) : fxInRange (fxAdd a b) := fxSat_inRange _
theorem fxSub_inRange (a b : Int) : fxInRange (fxSub a b) := fxSat_inRange _
theorem fxAbs_inRange (a : Int) : fxInRange (fxAbs a) := fxSat_inRange _
theorem fxNeg_inRange (a : Int) : fxInRange (fxNeg a) := fxSat_inRange _

theorem fxDiv_inRange (a b : Int) : fxInRange (fxDiv a b) := by
  unfold fxDiv
  split
  · unfold fxInRange
    rw [fxMin_eq, fxMax_eq]
    repeat' split
    all_goals omega
  · exact fxSat_inRange _

theorem fxAbs_nonneg (a : Int) : 0 ≤ fxAbs a := fxSat_nonneg (by positivity)

theorem fxAbs_pos {a : Int} (h : a ≠ 0) : 0 < fxAbs a := by
  have : (1 : Int) ≤ fxAbs a := le_fxSat_of_le (by rw [fxMax_eq]; norm_num) (by omega)
  omega

theorem scaleGuard_eq (s : Int) : scaleGuard s = if s = 0 then fxOne else s := by
  unfold scaleGuard
  rw [epsRaw_eq]
  by_cases h : s = 0
  · simp [h]
  · rw [if_neg (by omega), if_neg h]

theorem scaleGuard_ne_zero (s : Int) : scaleGuard s ≠ 0 := by
  rw [scaleGuard_eq]
  split
  · rw [fxOne_eq]
    norm_num
  · assumption

end Sys2Proof.Machine
end

