-- ==== Sys2Proof/Laws/Assembler.lean ====
section
/-! SUPPORT. What the operand of an assembly line stands for. -/

namespace Sys2Proof.Machine

/-- A decimal of the FX range stands for its raw value, and any other for a free value. -/
theorem fxOperand_cases (digits : Int) (places : Nat) :
    (fxInRange (fxLiteral digits (10 ^ places)) ∧ fxVal (fxOperand digits places) = fxLiteral digits (10 ^ places)) ∨
    (¬ fxInRange (fxLiteral digits (10 ^ places)) ∧ fxOperand digits places = Config.fxBeyondRange digits places) := by
  by_cases h : fxInRange (fxLiteral digits (10 ^ places))
  · exact .inl ⟨h, by rw [fxOperand, if_pos (by exact h), fxVal_fxWord h]⟩
  · exact .inr ⟨h, if_neg h⟩

end Sys2Proof.Machine
end

