-- ==== Sys2Proof/Laws/Memory.lean ====
section
/-! SUPPORT. The laws of the packet spaces: a read after a write, and the canonical form, which every memory operation
keeps. -/

namespace Sys2Proof.Machine

@[simp] theorem memReadByte_nil (a : Nat) : memReadByte [] a = 0 := rfl

@[simp] theorem memReadByte_cons (k : Nat) (v : Byte) (m : Memory) (a : Nat) :
    memReadByte ((k, v) :: m) a = if k = a then v else memReadByte m a := rfl

/-- An offset below every listed one reads as 0x00. -/
theorem memReadByte_of_lt {m : Memory} {a : Nat} (h : ∀ c ∈ m, a < c.1) : memReadByte m a = 0 := by
  induction m with
  | nil => rfl
  | cons c m ih =>
    have hc := h c (by simp)
    rw [show c = (c.1, c.2) from rfl, memReadByte_cons, if_neg (by omega)]
    exact ih fun d hd => h d (by simp [hd])

/-! ## The canonical form, split into its two clauses -/

theorem wf_iff (m : Memory) :
    m.wf = true ↔ m.Pairwise (fun x y => x.1 < y.1) ∧ ∀ c ∈ m, c.2 ≠ 0 := by
  simp [Memory.wf, List.all_eq_true]

@[simp] theorem wf_nil : Memory.wf [] = true := by simp [wf_iff]

theorem wf_cons (k : Nat) (v : Byte) (m : Memory) :
    Memory.wf ((k, v) :: m) = true ↔ v ≠ 0 ∧ (∀ c ∈ m, k < c.1) ∧ m.wf = true := by
  simp only [wf_iff, List.pairwise_cons, List.mem_cons, forall_eq_or_imp]
  tauto

theorem within_iff (m : Memory) (n : Nat) : m.within n = true ↔ ∀ c ∈ m, c.1 < n := by
  simp [Memory.within, List.all_eq_true]

@[simp] theorem within_nil (n : Nat) : Memory.within [] n = true := by simp [within_iff]

/-! ## One byte -/

/-- Every cell after a write is the written one or an old one. -/
theorem mem_memWriteByte {m : Memory} {a : Nat} {b : Byte} {c : Host.Cell} (h : c ∈ memWriteByte m a b) :
    c = (a, b) ∨ c ∈ m := by
  induction m with
  | nil =>
    simp only [memWriteByte] at h
    split at h <;> simp_all
  | cons d m ih =>
    simp only [memWriteByte] at h
    split at h
    · split at h
      · exact .inr h
      · simpa using h
    · split at h
      · split at h
        · exact .inr (by simp [h])
        · rcases List.mem_cons.1 h with h | h
          · exact .inl h
          · exact .inr (by simp [h])
      · rcases List.mem_cons.1 h with h | h
        · exact .inr (by simp [h])
        · exact (ih h).imp id fun h => by simp [h]

/-- A write keeps the canonical form. -/
theorem memWriteByte_wf {m : Memory} (h : m.wf = true) (a : Nat) (b : Byte) : (memWriteByte m a b).wf = true := by
  induction m with
  | nil =>
    simp only [memWriteByte]
    split
    · rfl
    · rw [wf_cons]
      simp_all
  | cons d m ih =>
    obtain ⟨k, v⟩ := d
    obtain ⟨hv, hk, hm⟩ := (wf_cons k v m).1 h
    simp only [memWriteByte]
    split
    · split
      · exact h
      · rename_i hlt hb
        rw [wf_cons]
        refine ⟨hb, fun c hc => ?_, h⟩
        rcases List.mem_cons.1 hc with rfl | hc
        · exact hlt
        · exact hlt.trans (hk c hc)
    · split
      · split
        · exact hm
        · rename_i hle heq hb
          rw [wf_cons]
          exact ⟨hb, fun c hc => heq ▸ hk c hc, hm⟩
      · rename_i hle hne
        rw [wf_cons]
        refine ⟨hv, fun c hc => ?_, ih hm⟩
        rcases mem_memWriteByte hc with rfl | hc
        · simp only
          omega
        · exact hk c hc

/-- A read after a write of one byte. -/
theorem memReadByte_memWriteByte {m : Memory} (h : m.wf = true) (a : Nat) (b : Byte) (x : Nat) :
    memReadByte (memWriteByte m a b) x = if x = a then b else memReadByte m x := by
  induction m with
  | nil =>
    simp only [memWriteByte]
    split
    · rename_i hb
      simp [hb]
    · simp only [memReadByte_cons, memReadByte_nil, eq_comm]
  | cons d m ih =>
    obtain ⟨k, v⟩ := d
    obtain ⟨hv, hk, hm⟩ := (wf_cons k v m).1 h
    simp only [memWriteByte]
    have low : a ≤ k → memReadByte m a = 0 := fun hle =>
      memReadByte_of_lt fun c hc => lt_of_le_of_lt hle (hk c hc)
    by_cases hx : x = a
    · subst hx
      rcases lt_trichotomy x k with hlt | rfl | hgt
      · rw [if_pos hlt, if_pos rfl]
        split
        · rw [memReadByte_cons, if_neg (by omega), low hlt.le]
          simp_all
        · simp
      · rw [if_neg (lt_irrefl _), if_pos rfl, if_pos rfl]
        split
        · rw [low le_rfl]
          simp_all
        · simp
      · rw [if_neg (by omega), if_neg (by omega), if_pos rfl, memReadByte_cons, if_neg (by omega), ih hm, if_pos rfl]
    · rw [if_neg hx]
      split
      · split
        · rfl
        · rw [memReadByte_cons, if_neg (Ne.symm hx)]
      · split
        · rename_i heq
          subst heq
          split
          · rw [memReadByte_cons, if_neg (Ne.symm hx)]
          · simp [Ne.symm hx]
        · rw [memReadByte_cons, memReadByte_cons, ih hm, if_neg hx]

theorem memWriteByte_within {m : Memory} {n a : Nat} (h : m.within n = true) (ha : a < n) (b : Byte) :
    (memWriteByte m a b).within n = true := by
  rw [within_iff] at *
  intro c hc
  rcases mem_memWriteByte hc with rfl | hc
  · exact ha
  · exact h c hc

/-! ## A list of bytes -/

theorem memWriteBytes_wf {m : Memory} (h : m.wf = true) (a : Nat) (bs : List Byte) :
    (memWriteBytes m a bs).wf = true := by
  induction bs generalizing m a with
  | nil => exact h
  | cons b bs ih => exact ih (memWriteByte_wf h a b) (a + 1)

theorem memReadByte_memWriteBytes {m : Memory} (h : m.wf = true) (a : Nat) (bs : List Byte) (x : Nat) :
    memReadByte (memWriteBytes m a bs) x =
      if a ≤ x ∧ x < a + bs.length then bs.getD (x - a) 0 else memReadByte m x := by
  induction bs generalizing m a with
  | nil => simp [memWriteBytes]
  | cons b bs ih =>
    rw [memWriteBytes, ih (memWriteByte_wf h a b), memReadByte_memWriteByte h]
    rcases lt_trichotomy x a with hlt | rfl | hgt
    · rw [if_neg (by omega), if_neg (by omega), if_neg (by omega)]
    · simp
    · rw [if_neg (by omega : ¬ x = a)]
      obtain ⟨d, rfl⟩ : ∃ d, x = a + 1 + d := ⟨x - a - 1, by omega⟩
      have e1 : a + 1 + d - (a + 1) = d := by omega
      have e2 : a + 1 + d - a = d + 1 := by omega
      rw [e1, e2]
      by_cases hd : d < bs.length
      · rw [if_pos (by omega), if_pos (by simp; omega)]
        simp
      · rw [if_neg (by omega), if_neg (by simp; omega)]

theorem memWriteBytes_within {m : Memory} {n a : Nat} {bs : List Byte} (h : m.within n = true)
    (ha : a + bs.length ≤ n) : (memWriteBytes m a bs).within n = true := by
  induction bs generalizing m a with
  | nil => exact h
  | cons b bs ih =>
    simp only [List.length_cons] at ha
    exact ih (memWriteByte_within h (by omega) b) (by omega)

/-! ## MemWrite and MemRead -/

/-- MemWrite stores the little-endian bytes of the value one after another. -/
theorem memWrite_eq_memWriteBytes (m : Memory) (a n v : Nat) :
    memWrite m a n v = memWriteBytes m a ((List.range n).map fun i => BitVec.ofNat 8 (v / 256 ^ i)) := by
  induction n generalizing m a v with
  | zero => rfl
  | succ n ih =>
    rw [memWrite, ih, List.range_succ_eq_map]
    simp only [List.map_cons, List.map_map, memWriteBytes, pow_zero, Nat.div_one]
    congr 1
    apply List.map_congr_left
    intro i _
    simp [Nat.pow_succ', Nat.div_div_eq_div_mul]

theorem memWrite_wf {m : Memory} (h : m.wf = true) (a n v : Nat) : (memWrite m a n v).wf = true := by
  rw [memWrite_eq_memWriteBytes]
  exact memWriteBytes_wf h a _

theorem memReadByte_memWrite {m : Memory} (h : m.wf = true) (a n v x : Nat) :
    memReadByte (memWrite m a n v) x =
      if a ≤ x ∧ x < a + n then BitVec.ofNat 8 (v / 256 ^ (x - a)) else memReadByte m x := by
  rw [memWrite_eq_memWriteBytes, memReadByte_memWriteBytes h]
  simp only [List.length_map, List.length_range]
  split
  · rename_i hx
    rw [List.getD_eq_getElem?_getD, List.getElem?_map, List.getElem?_range (by omega)]
    rfl
  · rfl

theorem memWrite_within {m : Memory} {k a n : Nat} (h : m.within k = true) (ha : a + n ≤ k) (v : Nat) :
    (memWrite m a n v).within k = true := by
  rw [memWrite_eq_memWriteBytes]
  exact memWriteBytes_within h (by simpa using ha)

theorem memWriteWords_wf {m : Memory} (h : m.wf = true) (a : Nat) (ws : List Word32) :
    (memWriteWords m a ws).wf = true := by
  induction ws generalizing m a with
  | nil => exact h
  | cons w ws ih => exact ih (memWrite_wf h a 4 _) (a + 4)

theorem memWriteWords_within {m : Memory} {k a : Nat} {ws : List Word32} (h : m.within k = true)
    (ha : a + 4 * ws.length ≤ k) : (memWriteWords m a ws).within k = true := by
  induction ws generalizing m a with
  | nil => exact h
  | cons w ws ih =>
    simp only [List.length_cons] at ha
    exact ih (memWrite_within h (by omega) _) (by omega)

/-- The byte that a run of 4-byte MemWrites leaves at an offset. -/
theorem memReadByte_memWriteWords {m : Memory} (h : m.wf = true) (a : Nat) (ws : List Word32) (x : Nat) :
    memReadByte (memWriteWords m a ws) x =
      if a ≤ x ∧ x < a + 4 * ws.length then
        BitVec.ofNat 8 ((ws.getD ((x - a) / 4) 0).toNat / 256 ^ ((x - a) % 4))
      else memReadByte m x := by
  induction ws generalizing m a with
  | nil => simp [memWriteWords]
  | cons w ws ih =>
    rw [memWriteWords, ih (memWrite_wf h a 4 _), memReadByte_memWrite h]
    by_cases h1 : a ≤ x ∧ x < a + 4
    · obtain ⟨d, rfl⟩ : ∃ d, x = a + d := ⟨x - a, by omega⟩
      have hd : d < 4 := by omega
      rw [if_neg (by omega), if_pos h1, if_pos (by simp; omega)]
      have e1 : (a + d - a) / 4 = 0 := by omega
      have e2 : (a + d - a) % 4 = a + d - a := by omega
      rw [e1, e2]
      simp
    · by_cases h2 : a + 4 ≤ x ∧ x < a + 4 + 4 * ws.length
      · rw [if_pos h2, if_pos (by simp; omega)]
        have e1 : (x - a) / 4 = (x - (a + 4)) / 4 + 1 := by omega
        have e2 : (x - a) % 4 = (x - (a + 4)) % 4 := by omega
        rw [e1, e2]
        simp
      · rw [if_neg h2, if_neg h1, if_neg (by simp; omega)]

/-- MemRead depends on the bytes it reads alone (20_memory.md R68). -/
theorem memRead_eq_of_bytes {m m' : Memory} (a n : Nat) (h : ∀ i < n, memReadByte m (a + i) = memReadByte m' (a + i)) :
    memRead m a n = memRead m' a n := by
  induction n generalizing a with
  | zero => rfl
  | succ n ih =>
    rw [memRead, memRead, ih (a + 1) fun i hi => by
      have := h (i + 1) (by omega)
      rwa [show a + (i + 1) = a + 1 + i by omega] at this]
    have := h 0 (by omega)
    rw [Nat.add_zero] at this
    rw [this]

@[simp] theorem length_memBytes (m : Memory) (n : Nat) : (memBytes m n).length = n := by simp [memBytes]

theorem getElem?_memBytes {m : Memory} {n i : Nat} (h : i < n) : (memBytes m n)[i]? = some (memReadByte m i) := by
  rw [memBytes, List.getElem?_map, List.getElem?_range h]
  rfl

end Sys2Proof.Machine
end

