-- ==== Sys2Proof/Laws/State.lean ====
section
/-! SUPPORT. One lemma per field per named update of the state, so that no later proof unfolds a record update. -/

namespace Sys2Proof.Machine

/-! ## `raise`: ERR alone -/

@[simp] theorem raise_cfg (c : ErrCause) (s : State) : (raise c s).cfg = s.cfg := rfl
@[simp] theorem raise_host (c : ErrCause) (s : State) : (raise c s).host = s.host := rfl
@[simp] theorem raise_link (c : ErrCause) (s : State) : (raise c s).link = s.link := rfl
@[simp] theorem raise_coreMode (c : ErrCause) (s : State) : (raise c s).coreMode = s.coreMode := rfl
@[simp] theorem raise_linkEnable (c : ErrCause) (s : State) : (raise c s).linkEnable = s.linkEnable := rfl
@[simp] theorem raise_linkReset (c : ErrCause) (s : State) : (raise c s).linkReset = s.linkReset := rfl
@[simp] theorem raise_linkStatus (c : ErrCause) (s : State) : (raise c s).linkStatus = s.linkStatus := rfl
@[simp] theorem raise_hsState (c : ErrCause) (s : State) : (raise c s).hsState = s.hsState := rfl
@[simp] theorem raise_hwResetIn (c : ErrCause) (s : State) : (raise c s).hwResetIn = s.hwResetIn := rfl
@[simp] theorem raise_hwResetOut (c : ErrCause) (s : State) : (raise c s).hwResetOut = s.hwResetOut := rfl
@[simp] theorem raise_lastRxTag (c : ErrCause) (s : State) : (raise c s).lastRxTag = s.lastRxTag := rfl
@[simp] theorem raise_attemptCount (c : ErrCause) (s : State) : (raise c s).attemptCount = s.attemptCount := rfl
@[simp] theorem raise_dt (c : ErrCause) (s : State) : (raise c s).dt = s.dt := rfl
@[simp] theorem raise_recipDt (c : ErrCause) (s : State) : (raise c s).recipDt = s.recipDt := rfl
@[simp] theorem raise_oldPeriod (c : ErrCause) (s : State) : (raise c s).oldPeriod = s.oldPeriod := rfl
@[simp] theorem raise_prevReset (c : ErrCause) (s : State) : (raise c s).prevReset = s.prevReset := rfl
@[simp] theorem raise_rxFresh (c : ErrCause) (s : State) : (raise c s).rxFresh = s.rxFresh := rfl
@[simp] theorem raise_setpoint (c : ErrCause) (s : State) : (raise c s).setpoint = s.setpoint := rfl
@[simp] theorem raise_pv (c : ErrCause) (s : State) : (raise c s).pv = s.pv := rfl
@[simp] theorem raise_dout (c : ErrCause) (s : State) : (raise c s).dout = s.dout := rfl
@[simp] theorem raise_din (c : ErrCause) (s : State) : (raise c s).din = s.din := rfl
@[simp] theorem raise_dinNot (c : ErrCause) (s : State) : (raise c s).dinNot = s.dinNot := rfl
@[simp] theorem raise_txbuf (c : ErrCause) (s : State) : (raise c s).txbuf = s.txbuf := rfl
@[simp] theorem raise_rxbuf (c : ErrCause) (s : State) : (raise c s).rxbuf = s.rxbuf := rfl
@[simp] theorem raise_dataOut (c : ErrCause) (s : State) : (raise c s).dataOut = s.dataOut := rfl
@[simp] theorem raise_axes (c : ErrCause) (s : State) : (raise c s).axes = s.axes := rfl
@[simp] theorem raise_err (c : ErrCause) (s : State) : (raise c s).err = errSet c s.err := rfl

/-! ## `takeEvent`: the host side alone -/

@[simp] theorem takeEvent_cfg (s : State) : (takeEvent s).cfg = s.cfg := rfl
@[simp] theorem takeEvent_link (s : State) : (takeEvent s).link = s.link := rfl
@[simp] theorem takeEvent_coreMode (s : State) : (takeEvent s).coreMode = s.coreMode := rfl
@[simp] theorem takeEvent_err (s : State) : (takeEvent s).err = s.err := rfl
@[simp] theorem takeEvent_linkEnable (s : State) : (takeEvent s).linkEnable = s.linkEnable := rfl
@[simp] theorem takeEvent_linkReset (s : State) : (takeEvent s).linkReset = s.linkReset := rfl
@[simp] theorem takeEvent_linkStatus (s : State) : (takeEvent s).linkStatus = s.linkStatus := rfl
@[simp] theorem takeEvent_hsState (s : State) : (takeEvent s).hsState = s.hsState := rfl
@[simp] theorem takeEvent_hwResetIn (s : State) : (takeEvent s).hwResetIn = s.hwResetIn := rfl
@[simp] theorem takeEvent_hwResetOut (s : State) : (takeEvent s).hwResetOut = s.hwResetOut := rfl
@[simp] theorem takeEvent_lastRxTag (s : State) : (takeEvent s).lastRxTag = s.lastRxTag := rfl
@[simp] theorem takeEvent_attemptCount (s : State) : (takeEvent s).attemptCount = s.attemptCount := rfl
@[simp] theorem takeEvent_dt (s : State) : (takeEvent s).dt = s.dt := rfl
@[simp] theorem takeEvent_recipDt (s : State) : (takeEvent s).recipDt = s.recipDt := rfl
@[simp] theorem takeEvent_oldPeriod (s : State) : (takeEvent s).oldPeriod = s.oldPeriod := rfl
@[simp] theorem takeEvent_prevReset (s : State) : (takeEvent s).prevReset = s.prevReset := rfl
@[simp] theorem takeEvent_rxFresh (s : State) : (takeEvent s).rxFresh = s.rxFresh := rfl
@[simp] theorem takeEvent_setpoint (s : State) : (takeEvent s).setpoint = s.setpoint := rfl
@[simp] theorem takeEvent_pv (s : State) : (takeEvent s).pv = s.pv := rfl
@[simp] theorem takeEvent_dout (s : State) : (takeEvent s).dout = s.dout := rfl
@[simp] theorem takeEvent_din (s : State) : (takeEvent s).din = s.din := rfl
@[simp] theorem takeEvent_dinNot (s : State) : (takeEvent s).dinNot = s.dinNot := rfl
@[simp] theorem takeEvent_txbuf (s : State) : (takeEvent s).txbuf = s.txbuf := rfl
@[simp] theorem takeEvent_rxbuf (s : State) : (takeEvent s).rxbuf = s.rxbuf := rfl
@[simp] theorem takeEvent_dataOut (s : State) : (takeEvent s).dataOut = s.dataOut := rfl
@[simp] theorem takeEvent_axes (s : State) : (takeEvent s).axes = s.axes := rfl
@[simp] theorem takeEvent_host (s : State) : (takeEvent s).host = { s.host with events := s.host.events.tail } := rfl

/-! ## `completeCommand`: the host side alone -/

@[simp] theorem completeCommand_cfg (s : State) : (completeCommand s).cfg = s.cfg := rfl
@[simp] theorem completeCommand_link (s : State) : (completeCommand s).link = s.link := rfl
@[simp] theorem completeCommand_coreMode (s : State) : (completeCommand s).coreMode = s.coreMode := rfl
@[simp] theorem completeCommand_err (s : State) : (completeCommand s).err = s.err := rfl
@[simp] theorem completeCommand_linkEnable (s : State) : (completeCommand s).linkEnable = s.linkEnable := rfl
@[simp] theorem completeCommand_linkReset (s : State) : (completeCommand s).linkReset = s.linkReset := rfl
@[simp] theorem completeCommand_linkStatus (s : State) : (completeCommand s).linkStatus = s.linkStatus := rfl
@[simp] theorem completeCommand_hsState (s : State) : (completeCommand s).hsState = s.hsState := rfl
@[simp] theorem completeCommand_hwResetIn (s : State) : (completeCommand s).hwResetIn = s.hwResetIn := rfl
@[simp] theorem completeCommand_hwResetOut (s : State) : (completeCommand s).hwResetOut = s.hwResetOut := rfl
@[simp] theorem completeCommand_lastRxTag (s : State) : (completeCommand s).lastRxTag = s.lastRxTag := rfl
@[simp] theorem completeCommand_attemptCount (s : State) : (completeCommand s).attemptCount = s.attemptCount := rfl
@[simp] theorem completeCommand_dt (s : State) : (completeCommand s).dt = s.dt := rfl
@[simp] theorem completeCommand_recipDt (s : State) : (completeCommand s).recipDt = s.recipDt := rfl
@[simp] theorem completeCommand_oldPeriod (s : State) : (completeCommand s).oldPeriod = s.oldPeriod := rfl
@[simp] theorem completeCommand_prevReset (s : State) : (completeCommand s).prevReset = s.prevReset := rfl
@[simp] theorem completeCommand_rxFresh (s : State) : (completeCommand s).rxFresh = s.rxFresh := rfl
@[simp] theorem completeCommand_setpoint (s : State) : (completeCommand s).setpoint = s.setpoint := rfl
@[simp] theorem completeCommand_pv (s : State) : (completeCommand s).pv = s.pv := rfl
@[simp] theorem completeCommand_dout (s : State) : (completeCommand s).dout = s.dout := rfl
@[simp] theorem completeCommand_din (s : State) : (completeCommand s).din = s.din := rfl
@[simp] theorem completeCommand_dinNot (s : State) : (completeCommand s).dinNot = s.dinNot := rfl
@[simp] theorem completeCommand_txbuf (s : State) : (completeCommand s).txbuf = s.txbuf := rfl
@[simp] theorem completeCommand_rxbuf (s : State) : (completeCommand s).rxbuf = s.rxbuf := rfl
@[simp] theorem completeCommand_dataOut (s : State) : (completeCommand s).dataOut = s.dataOut := rfl
@[simp] theorem completeCommand_axes (s : State) : (completeCommand s).axes = s.axes := rfl
@[simp] theorem completeCommand_host (s : State) : (completeCommand s).host = { s.host with cmdDone := true } := rfl

/-! ## `leaveReset`: the host side alone -/

@[simp] theorem leaveReset_cfg (s : State) : (leaveReset s).cfg = s.cfg := rfl
@[simp] theorem leaveReset_link (s : State) : (leaveReset s).link = s.link := rfl
@[simp] theorem leaveReset_coreMode (s : State) : (leaveReset s).coreMode = s.coreMode := rfl
@[simp] theorem leaveReset_err (s : State) : (leaveReset s).err = s.err := rfl
@[simp] theorem leaveReset_linkEnable (s : State) : (leaveReset s).linkEnable = s.linkEnable := rfl
@[simp] theorem leaveReset_linkReset (s : State) : (leaveReset s).linkReset = s.linkReset := rfl
@[simp] theorem leaveReset_linkStatus (s : State) : (leaveReset s).linkStatus = s.linkStatus := rfl
@[simp] theorem leaveReset_hsState (s : State) : (leaveReset s).hsState = s.hsState := rfl
@[simp] theorem leaveReset_hwResetIn (s : State) : (leaveReset s).hwResetIn = s.hwResetIn := rfl
@[simp] theorem leaveReset_hwResetOut (s : State) : (leaveReset s).hwResetOut = s.hwResetOut := rfl
@[simp] theorem leaveReset_lastRxTag (s : State) : (leaveReset s).lastRxTag = s.lastRxTag := rfl
@[simp] theorem leaveReset_attemptCount (s : State) : (leaveReset s).attemptCount = s.attemptCount := rfl
@[simp] theorem leaveReset_dt (s : State) : (leaveReset s).dt = s.dt := rfl
@[simp] theorem leaveReset_recipDt (s : State) : (leaveReset s).recipDt = s.recipDt := rfl
@[simp] theorem leaveReset_oldPeriod (s : State) : (leaveReset s).oldPeriod = s.oldPeriod := rfl
@[simp] theorem leaveReset_prevReset (s : State) : (leaveReset s).prevReset = s.prevReset := rfl
@[simp] theorem leaveReset_rxFresh (s : State) : (leaveReset s).rxFresh = s.rxFresh := rfl
@[simp] theorem leaveReset_setpoint (s : State) : (leaveReset s).setpoint = s.setpoint := rfl
@[simp] theorem leaveReset_pv (s : State) : (leaveReset s).pv = s.pv := rfl
@[simp] theorem leaveReset_dout (s : State) : (leaveReset s).dout = s.dout := rfl
@[simp] theorem leaveReset_din (s : State) : (leaveReset s).din = s.din := rfl
@[simp] theorem leaveReset_dinNot (s : State) : (leaveReset s).dinNot = s.dinNot := rfl
@[simp] theorem leaveReset_txbuf (s : State) : (leaveReset s).txbuf = s.txbuf := rfl
@[simp] theorem leaveReset_rxbuf (s : State) : (leaveReset s).rxbuf = s.rxbuf := rfl
@[simp] theorem leaveReset_dataOut (s : State) : (leaveReset s).dataOut = s.dataOut := rfl
@[simp] theorem leaveReset_axes (s : State) : (leaveReset s).axes = s.axes := rfl
@[simp] theorem leaveReset_host (s : State) : (leaveReset s).host = { s.host with rstN := true } := rfl

/-! ## `presentCommand`: the host side alone -/

@[simp] theorem presentCommand_cfg (c : Command) (s : State) : (presentCommand c s).cfg = s.cfg := rfl
@[simp] theorem presentCommand_link (c : Command) (s : State) : (presentCommand c s).link = s.link := rfl
@[simp] theorem presentCommand_coreMode (c : Command) (s : State) : (presentCommand c s).coreMode = s.coreMode := rfl
@[simp] theorem presentCommand_err (c : Command) (s : State) : (presentCommand c s).err = s.err := rfl
@[simp] theorem presentCommand_linkEnable (c : Command) (s : State) : (presentCommand c s).linkEnable = s.linkEnable := rfl
@[simp] theorem presentCommand_linkReset (c : Command) (s : State) : (presentCommand c s).linkReset = s.linkReset := rfl
@[simp] theorem presentCommand_linkStatus (c : Command) (s : State) : (presentCommand c s).linkStatus = s.linkStatus := rfl
@[simp] theorem presentCommand_hsState (c : Command) (s : State) : (presentCommand c s).hsState = s.hsState := rfl
@[simp] theorem presentCommand_hwResetIn (c : Command) (s : State) : (presentCommand c s).hwResetIn = s.hwResetIn := rfl
@[simp] theorem presentCommand_hwResetOut (c : Command) (s : State) : (presentCommand c s).hwResetOut = s.hwResetOut := rfl
@[simp] theorem presentCommand_lastRxTag (c : Command) (s : State) : (presentCommand c s).lastRxTag = s.lastRxTag := rfl
@[simp] theorem presentCommand_attemptCount (c : Command) (s : State) : (presentCommand c s).attemptCount = s.attemptCount := rfl
@[simp] theorem presentCommand_dt (c : Command) (s : State) : (presentCommand c s).dt = s.dt := rfl
@[simp] theorem presentCommand_recipDt (c : Command) (s : State) : (presentCommand c s).recipDt = s.recipDt := rfl
@[simp] theorem presentCommand_oldPeriod (c : Command) (s : State) : (presentCommand c s).oldPeriod = s.oldPeriod := rfl
@[simp] theorem presentCommand_prevReset (c : Command) (s : State) : (presentCommand c s).prevReset = s.prevReset := rfl
@[simp] theorem presentCommand_rxFresh (c : Command) (s : State) : (presentCommand c s).rxFresh = s.rxFresh := rfl
@[simp] theorem presentCommand_setpoint (c : Command) (s : State) : (presentCommand c s).setpoint = s.setpoint := rfl
@[simp] theorem presentCommand_pv (c : Command) (s : State) : (presentCommand c s).pv = s.pv := rfl
@[simp] theorem presentCommand_dout (c : Command) (s : State) : (presentCommand c s).dout = s.dout := rfl
@[simp] theorem presentCommand_din (c : Command) (s : State) : (presentCommand c s).din = s.din := rfl
@[simp] theorem presentCommand_dinNot (c : Command) (s : State) : (presentCommand c s).dinNot = s.dinNot := rfl
@[simp] theorem presentCommand_txbuf (c : Command) (s : State) : (presentCommand c s).txbuf = s.txbuf := rfl
@[simp] theorem presentCommand_rxbuf (c : Command) (s : State) : (presentCommand c s).rxbuf = s.rxbuf := rfl
@[simp] theorem presentCommand_dataOut (c : Command) (s : State) : (presentCommand c s).dataOut = s.dataOut := rfl
@[simp] theorem presentCommand_axes (c : Command) (s : State) : (presentCommand c s).axes = s.axes := rfl
@[simp] theorem presentCommand_host (c : Command) (s : State) : (presentCommand c s).host = { s.host with rstN := true, events := .command c :: s.host.events } := rfl

/-! ## `writeErr`: ERR alone -/

@[simp] theorem writeErr_cfg (s : State) (d : FxWord) : (writeErr s d).cfg = s.cfg := rfl
@[simp] theorem writeErr_host (s : State) (d : FxWord) : (writeErr s d).host = s.host := rfl
@[simp] theorem writeErr_link (s : State) (d : FxWord) : (writeErr s d).link = s.link := rfl
@[simp] theorem writeErr_coreMode (s : State) (d : FxWord) : (writeErr s d).coreMode = s.coreMode := rfl
@[simp] theorem writeErr_linkEnable (s : State) (d : FxWord) : (writeErr s d).linkEnable = s.linkEnable := rfl
@[simp] theorem writeErr_linkReset (s : State) (d : FxWord) : (writeErr s d).linkReset = s.linkReset := rfl
@[simp] theorem writeErr_linkStatus (s : State) (d : FxWord) : (writeErr s d).linkStatus = s.linkStatus := rfl
@[simp] theorem writeErr_hsState (s : State) (d : FxWord) : (writeErr s d).hsState = s.hsState := rfl
@[simp] theorem writeErr_hwResetIn (s : State) (d : FxWord) : (writeErr s d).hwResetIn = s.hwResetIn := rfl
@[simp] theorem writeErr_hwResetOut (s : State) (d : FxWord) : (writeErr s d).hwResetOut = s.hwResetOut := rfl
@[simp] theorem writeErr_lastRxTag (s : State) (d : FxWord) : (writeErr s d).lastRxTag = s.lastRxTag := rfl
@[simp] theorem writeErr_attemptCount (s : State) (d : FxWord) : (writeErr s d).attemptCount = s.attemptCount := rfl
@[simp] theorem writeErr_dt (s : State) (d : FxWord) : (writeErr s d).dt = s.dt := rfl
@[simp] theorem writeErr_recipDt (s : State) (d : FxWord) : (writeErr s d).recipDt = s.recipDt := rfl
@[simp] theorem writeErr_oldPeriod (s : State) (d : FxWord) : (writeErr s d).oldPeriod = s.oldPeriod := rfl
@[simp] theorem writeErr_prevReset (s : State) (d : FxWord) : (writeErr s d).prevReset = s.prevReset := rfl
@[simp] theorem writeErr_rxFresh (s : State) (d : FxWord) : (writeErr s d).rxFresh = s.rxFresh := rfl
@[simp] theorem writeErr_setpoint (s : State) (d : FxWord) : (writeErr s d).setpoint = s.setpoint := rfl
@[simp] theorem writeErr_pv (s : State) (d : FxWord) : (writeErr s d).pv = s.pv := rfl
@[simp] theorem writeErr_dout (s : State) (d : FxWord) : (writeErr s d).dout = s.dout := rfl
@[simp] theorem writeErr_din (s : State) (d : FxWord) : (writeErr s d).din = s.din := rfl
@[simp] theorem writeErr_dinNot (s : State) (d : FxWord) : (writeErr s d).dinNot = s.dinNot := rfl
@[simp] theorem writeErr_txbuf (s : State) (d : FxWord) : (writeErr s d).txbuf = s.txbuf := rfl
@[simp] theorem writeErr_rxbuf (s : State) (d : FxWord) : (writeErr s d).rxbuf = s.rxbuf := rfl
@[simp] theorem writeErr_dataOut (s : State) (d : FxWord) : (writeErr s d).dataOut = s.dataOut := rfl
@[simp] theorem writeErr_axes (s : State) (d : FxWord) : (writeErr s d).axes = s.axes := rfl
@[simp] theorem writeErr_err (s : State) (d : FxWord) : (writeErr s d).err = errClear d s.err := rfl

/-! ## `stepAxes`: the axes alone -/

@[simp] theorem stepAxes_cfg (s : State) : (stepAxes s).cfg = s.cfg := rfl
@[simp] theorem stepAxes_host (s : State) : (stepAxes s).host = s.host := rfl
@[simp] theorem stepAxes_link (s : State) : (stepAxes s).link = s.link := rfl
@[simp] theorem stepAxes_coreMode (s : State) : (stepAxes s).coreMode = s.coreMode := rfl
@[simp] theorem stepAxes_err (s : State) : (stepAxes s).err = s.err := rfl
@[simp] theorem stepAxes_linkEnable (s : State) : (stepAxes s).linkEnable = s.linkEnable := rfl
@[simp] theorem stepAxes_linkReset (s : State) : (stepAxes s).linkReset = s.linkReset := rfl
@[simp] theorem stepAxes_linkStatus (s : State) : (stepAxes s).linkStatus = s.linkStatus := rfl
@[simp] theorem stepAxes_hsState (s : State) : (stepAxes s).hsState = s.hsState := rfl
@[simp] theorem stepAxes_hwResetIn (s : State) : (stepAxes s).hwResetIn = s.hwResetIn := rfl
@[simp] theorem stepAxes_hwResetOut (s : State) : (stepAxes s).hwResetOut = s.hwResetOut := rfl
@[simp] theorem stepAxes_lastRxTag (s : State) : (stepAxes s).lastRxTag = s.lastRxTag := rfl
@[simp] theorem stepAxes_attemptCount (s : State) : (stepAxes s).attemptCount = s.attemptCount := rfl
@[simp] theorem stepAxes_dt (s : State) : (stepAxes s).dt = s.dt := rfl
@[simp] theorem stepAxes_recipDt (s : State) : (stepAxes s).recipDt = s.recipDt := rfl
@[simp] theorem stepAxes_oldPeriod (s : State) : (stepAxes s).oldPeriod = s.oldPeriod := rfl
@[simp] theorem stepAxes_prevReset (s : State) : (stepAxes s).prevReset = s.prevReset := rfl
@[simp] theorem stepAxes_rxFresh (s : State) : (stepAxes s).rxFresh = s.rxFresh := rfl
@[simp] theorem stepAxes_setpoint (s : State) : (stepAxes s).setpoint = s.setpoint := rfl
@[simp] theorem stepAxes_pv (s : State) : (stepAxes s).pv = s.pv := rfl
@[simp] theorem stepAxes_dout (s : State) : (stepAxes s).dout = s.dout := rfl
@[simp] theorem stepAxes_din (s : State) : (stepAxes s).din = s.din := rfl
@[simp] theorem stepAxes_dinNot (s : State) : (stepAxes s).dinNot = s.dinNot := rfl
@[simp] theorem stepAxes_txbuf (s : State) : (stepAxes s).txbuf = s.txbuf := rfl
@[simp] theorem stepAxes_rxbuf (s : State) : (stepAxes s).rxbuf = s.rxbuf := rfl
@[simp] theorem stepAxes_dataOut (s : State) : (stepAxes s).dataOut = s.dataOut := rfl
@[simp] theorem stepAxes_axes (s : State) : (stepAxes s).axes = s.axes.map (axisStep (mfHw s.cfg) (fxVal s.dt) (fxVal s.recipDt)) := rfl

/-! ## `cacheTick`: the cached tick constants alone -/

@[simp] theorem cacheTick_cfg (period : Word32) (s : State) : (cacheTick period s).cfg = s.cfg := by unfold cacheTick; split <;> rfl
@[simp] theorem cacheTick_host (period : Word32) (s : State) : (cacheTick period s).host = s.host := by unfold cacheTick; split <;> rfl
@[simp] theorem cacheTick_link (period : Word32) (s : State) : (cacheTick period s).link = s.link := by unfold cacheTick; split <;> rfl
@[simp] theorem cacheTick_coreMode (period : Word32) (s : State) : (cacheTick period s).coreMode = s.coreMode := by unfold cacheTick; split <;> rfl
@[simp] theorem cacheTick_err (period : Word32) (s : State) : (cacheTick period s).err = s.err := by unfold cacheTick; split <;> rfl
@[simp] theorem cacheTick_linkEnable (period : Word32) (s : State) : (cacheTick period s).linkEnable = s.linkEnable := by unfold cacheTick; split <;> rfl
@[simp] theorem cacheTick_linkReset (period : Word32) (s : State) : (cacheTick period s).linkReset = s.linkReset := by unfold cacheTick; split <;> rfl
@[simp] theorem cacheTick_linkStatus (period : Word32) (s : State) : (cacheTick period s).linkStatus = s.linkStatus := by unfold cacheTick; split <;> rfl
@[simp] theorem cacheTick_hsState (period : Word32) (s : State) : (cacheTick period s).hsState = s.hsState := by unfold cacheTick; split <;> rfl
@[simp] theorem cacheTick_hwResetIn (period : Word32) (s : State) : (cacheTick period s).hwResetIn = s.hwResetIn := by unfold cacheTick; split <;> rfl
@[simp] theorem cacheTick_hwResetOut (period : Word32) (s : State) : (cacheTick period s).hwResetOut = s.hwResetOut := by unfold cacheTick; split <;> rfl
@[simp] theorem cacheTick_lastRxTag (period : Word32) (s : State) : (cacheTick period s).lastRxTag = s.lastRxTag := by unfold cacheTick; split <;> rfl
@[simp] theorem cacheTick_attemptCount (period : Word32) (s : State) : (cacheTick period s).attemptCount = s.attemptCount := by unfold cacheTick; split <;> rfl
@[simp] theorem cacheTick_prevReset (period : Word32) (s : State) : (cacheTick period s).prevReset = s.prevReset := by unfold cacheTick; split <;> rfl
@[simp] theorem cacheTick_rxFresh (period : Word32) (s : State) : (cacheTick period s).rxFresh = s.rxFresh := by unfold cacheTick; split <;> rfl
@[simp] theorem cacheTick_setpoint (period : Word32) (s : State) : (cacheTick period s).setpoint = s.setpoint := by unfold cacheTick; split <;> rfl
@[simp] theorem cacheTick_pv (period : Word32) (s : State) : (cacheTick period s).pv = s.pv := by unfold cacheTick; split <;> rfl
@[simp] theorem cacheTick_dout (period : Word32) (s : State) : (cacheTick period s).dout = s.dout := by unfold cacheTick; split <;> rfl
@[simp] theorem cacheTick_din (period : Word32) (s : State) : (cacheTick period s).din = s.din := by unfold cacheTick; split <;> rfl
@[simp] theorem cacheTick_dinNot (period : Word32) (s : State) : (cacheTick period s).dinNot = s.dinNot := by unfold cacheTick; split <;> rfl
@[simp] theorem cacheTick_txbuf (period : Word32) (s : State) : (cacheTick period s).txbuf = s.txbuf := by unfold cacheTick; split <;> rfl
@[simp] theorem cacheTick_rxbuf (period : Word32) (s : State) : (cacheTick period s).rxbuf = s.rxbuf := by unfold cacheTick; split <;> rfl
@[simp] theorem cacheTick_dataOut (period : Word32) (s : State) : (cacheTick period s).dataOut = s.dataOut := by unfold cacheTick; split <;> rfl
@[simp] theorem cacheTick_axes (period : Word32) (s : State) : (cacheTick period s).axes = s.axes := by unfold cacheTick; split <;> rfl

/-! ## `buildTx`: TXBUF alone -/

@[simp] theorem buildTx_cfg (s : State) : (buildTx s).cfg = s.cfg := rfl
@[simp] theorem buildTx_host (s : State) : (buildTx s).host = s.host := rfl
@[simp] theorem buildTx_link (s : State) : (buildTx s).link = s.link := rfl
@[simp] theorem buildTx_coreMode (s : State) : (buildTx s).coreMode = s.coreMode := rfl
@[simp] theorem buildTx_err (s : State) : (buildTx s).err = s.err := rfl
@[simp] theorem buildTx_linkEnable (s : State) : (buildTx s).linkEnable = s.linkEnable := rfl
@[simp] theorem buildTx_linkReset (s : State) : (buildTx s).linkReset = s.linkReset := rfl
@[simp] theorem buildTx_linkStatus (s : State) : (buildTx s).linkStatus = s.linkStatus := rfl
@[simp] theorem buildTx_hsState (s : State) : (buildTx s).hsState = s.hsState := rfl
@[simp] theorem buildTx_hwResetIn (s : State) : (buildTx s).hwResetIn = s.hwResetIn := rfl
@[simp] theorem buildTx_hwResetOut (s : State) : (buildTx s).hwResetOut = s.hwResetOut := rfl
@[simp] theorem buildTx_lastRxTag (s : State) : (buildTx s).lastRxTag = s.lastRxTag := rfl
@[simp] theorem buildTx_attemptCount (s : State) : (buildTx s).attemptCount = s.attemptCount := rfl
@[simp] theorem buildTx_dt (s : State) : (buildTx s).dt = s.dt := rfl
@[simp] theorem buildTx_recipDt (s : State) : (buildTx s).recipDt = s.recipDt := rfl
@[simp] theorem buildTx_oldPeriod (s : State) : (buildTx s).oldPeriod = s.oldPeriod := rfl
@[simp] theorem buildTx_prevReset (s : State) : (buildTx s).prevReset = s.prevReset := rfl
@[simp] theorem buildTx_rxFresh (s : State) : (buildTx s).rxFresh = s.rxFresh := rfl
@[simp] theorem buildTx_setpoint (s : State) : (buildTx s).setpoint = s.setpoint := rfl
@[simp] theorem buildTx_pv (s : State) : (buildTx s).pv = s.pv := rfl
@[simp] theorem buildTx_dout (s : State) : (buildTx s).dout = s.dout := rfl
@[simp] theorem buildTx_din (s : State) : (buildTx s).din = s.din := rfl
@[simp] theorem buildTx_dinNot (s : State) : (buildTx s).dinNot = s.dinNot := rfl
@[simp] theorem buildTx_rxbuf (s : State) : (buildTx s).rxbuf = s.rxbuf := rfl
@[simp] theorem buildTx_dataOut (s : State) : (buildTx s).dataOut = s.dataOut := rfl
@[simp] theorem buildTx_axes (s : State) : (buildTx s).axes = s.axes := rfl

/-! ## `prepareLink`: RX_FRESH, HW_RESET_OUT and TXBUF alone -/

@[simp] theorem prepareLink_cfg (s : State) : (prepareLink s).cfg = s.cfg := rfl
@[simp] theorem prepareLink_host (s : State) : (prepareLink s).host = s.host := rfl
@[simp] theorem prepareLink_link (s : State) : (prepareLink s).link = s.link := rfl
@[simp] theorem prepareLink_coreMode (s : State) : (prepareLink s).coreMode = s.coreMode := rfl
@[simp] theorem prepareLink_err (s : State) : (prepareLink s).err = s.err := rfl
@[simp] theorem prepareLink_linkEnable (s : State) : (prepareLink s).linkEnable = s.linkEnable := rfl
@[simp] theorem prepareLink_linkReset (s : State) : (prepareLink s).linkReset = s.linkReset := rfl
@[simp] theorem prepareLink_linkStatus (s : State) : (prepareLink s).linkStatus = s.linkStatus := rfl
@[simp] theorem prepareLink_hsState (s : State) : (prepareLink s).hsState = s.hsState := rfl
@[simp] theorem prepareLink_hwResetIn (s : State) : (prepareLink s).hwResetIn = s.hwResetIn := rfl
@[simp] theorem prepareLink_lastRxTag (s : State) : (prepareLink s).lastRxTag = s.lastRxTag := rfl
@[simp] theorem prepareLink_attemptCount (s : State) : (prepareLink s).attemptCount = s.attemptCount := rfl
@[simp] theorem prepareLink_dt (s : State) : (prepareLink s).dt = s.dt := rfl
@[simp] theorem prepareLink_recipDt (s : State) : (prepareLink s).recipDt = s.recipDt := rfl
@[simp] theorem prepareLink_oldPeriod (s : State) : (prepareLink s).oldPeriod = s.oldPeriod := rfl
@[simp] theorem prepareLink_prevReset (s : State) : (prepareLink s).prevReset = s.prevReset := rfl
@[simp] theorem prepareLink_setpoint (s : State) : (prepareLink s).setpoint = s.setpoint := rfl
@[simp] theorem prepareLink_pv (s : State) : (prepareLink s).pv = s.pv := rfl
@[simp] theorem prepareLink_dout (s : State) : (prepareLink s).dout = s.dout := rfl
@[simp] theorem prepareLink_din (s : State) : (prepareLink s).din = s.din := rfl
@[simp] theorem prepareLink_dinNot (s : State) : (prepareLink s).dinNot = s.dinNot := rfl
@[simp] theorem prepareLink_rxbuf (s : State) : (prepareLink s).rxbuf = s.rxbuf := rfl
@[simp] theorem prepareLink_dataOut (s : State) : (prepareLink s).dataOut = s.dataOut := rfl
@[simp] theorem prepareLink_axes (s : State) : (prepareLink s).axes = s.axes := rfl
@[simp] theorem prepareLink_rxFresh (s : State) : (prepareLink s).rxFresh = false := rfl
@[simp] theorem prepareLink_hwResetOut (s : State) : (prepareLink s).hwResetOut = s.hwResetIn := rfl

/-! ## `driveExchange`: the link side alone -/

@[simp] theorem driveExchange_cfg (s : State) : (driveExchange s).cfg = s.cfg := rfl
@[simp] theorem driveExchange_host (s : State) : (driveExchange s).host = s.host := rfl
@[simp] theorem driveExchange_coreMode (s : State) : (driveExchange s).coreMode = s.coreMode := rfl
@[simp] theorem driveExchange_err (s : State) : (driveExchange s).err = s.err := rfl
@[simp] theorem driveExchange_linkEnable (s : State) : (driveExchange s).linkEnable = s.linkEnable := rfl
@[simp] theorem driveExchange_linkReset (s : State) : (driveExchange s).linkReset = s.linkReset := rfl
@[simp] theorem driveExchange_linkStatus (s : State) : (driveExchange s).linkStatus = s.linkStatus := rfl
@[simp] theorem driveExchange_hsState (s : State) : (driveExchange s).hsState = s.hsState := rfl
@[simp] theorem driveExchange_hwResetIn (s : State) : (driveExchange s).hwResetIn = s.hwResetIn := rfl
@[simp] theorem driveExchange_hwResetOut (s : State) : (driveExchange s).hwResetOut = s.hwResetOut := rfl
@[simp] theorem driveExchange_lastRxTag (s : State) : (driveExchange s).lastRxTag = s.lastRxTag := rfl
@[simp] theorem driveExchange_attemptCount (s : State) : (driveExchange s).attemptCount = s.attemptCount := rfl
@[simp] theorem driveExchange_dt (s : State) : (driveExchange s).dt = s.dt := rfl
@[simp] theorem driveExchange_recipDt (s : State) : (driveExchange s).recipDt = s.recipDt := rfl
@[simp] theorem driveExchange_oldPeriod (s : State) : (driveExchange s).oldPeriod = s.oldPeriod := rfl
@[simp] theorem driveExchange_prevReset (s : State) : (driveExchange s).prevReset = s.prevReset := rfl
@[simp] theorem driveExchange_rxFresh (s : State) : (driveExchange s).rxFresh = s.rxFresh := rfl
@[simp] theorem driveExchange_setpoint (s : State) : (driveExchange s).setpoint = s.setpoint := rfl
@[simp] theorem driveExchange_pv (s : State) : (driveExchange s).pv = s.pv := rfl
@[simp] theorem driveExchange_dout (s : State) : (driveExchange s).dout = s.dout := rfl
@[simp] theorem driveExchange_din (s : State) : (driveExchange s).din = s.din := rfl
@[simp] theorem driveExchange_dinNot (s : State) : (driveExchange s).dinNot = s.dinNot := rfl
@[simp] theorem driveExchange_txbuf (s : State) : (driveExchange s).txbuf = s.txbuf := rfl
@[simp] theorem driveExchange_rxbuf (s : State) : (driveExchange s).rxbuf = s.rxbuf := rfl
@[simp] theorem driveExchange_dataOut (s : State) : (driveExchange s).dataOut = s.dataOut := rfl
@[simp] theorem driveExchange_axes (s : State) : (driveExchange s).axes = s.axes := rfl
@[simp] theorem driveExchange_link (s : State) : (driveExchange s).link = linkAfterExchange s.cfg.transport (memBytes s.txbuf (exchangeLen s.cfg)) s.link := rfl

/-! ## `exchange`: the link side and RXBUF alone -/

@[simp] theorem exchange_cfg (s : State) : (exchange s).2.cfg = s.cfg := by unfold exchange; split <;> rfl
@[simp] theorem exchange_host (s : State) : (exchange s).2.host = s.host := by unfold exchange; split <;> rfl
@[simp] theorem exchange_coreMode (s : State) : (exchange s).2.coreMode = s.coreMode := by unfold exchange; split <;> rfl
@[simp] theorem exchange_err (s : State) : (exchange s).2.err = s.err := by unfold exchange; split <;> rfl
@[simp] theorem exchange_linkEnable (s : State) : (exchange s).2.linkEnable = s.linkEnable := by unfold exchange; split <;> rfl
@[simp] theorem exchange_linkReset (s : State) : (exchange s).2.linkReset = s.linkReset := by unfold exchange; split <;> rfl
@[simp] theorem exchange_linkStatus (s : State) : (exchange s).2.linkStatus = s.linkStatus := by unfold exchange; split <;> rfl
@[simp] theorem exchange_hsState (s : State) : (exchange s).2.hsState = s.hsState := by unfold exchange; split <;> rfl
@[simp] theorem exchange_hwResetIn (s : State) : (exchange s).2.hwResetIn = s.hwResetIn := by unfold exchange; split <;> rfl
@[simp] theorem exchange_hwResetOut (s : State) : (exchange s).2.hwResetOut = s.hwResetOut := by unfold exchange; split <;> rfl
@[simp] theorem exchange_lastRxTag (s : State) : (exchange s).2.lastRxTag = s.lastRxTag := by unfold exchange; split <;> rfl
@[simp] theorem exchange_attemptCount (s : State) : (exchange s).2.attemptCount = s.attemptCount := by unfold exchange; split <;> rfl
@[simp] theorem exchange_dt (s : State) : (exchange s).2.dt = s.dt := by unfold exchange; split <;> rfl
@[simp] theorem exchange_recipDt (s : State) : (exchange s).2.recipDt = s.recipDt := by unfold exchange; split <;> rfl
@[simp] theorem exchange_oldPeriod (s : State) : (exchange s).2.oldPeriod = s.oldPeriod := by unfold exchange; split <;> rfl
@[simp] theorem exchange_prevReset (s : State) : (exchange s).2.prevReset = s.prevReset := by unfold exchange; split <;> rfl
@[simp] theorem exchange_rxFresh (s : State) : (exchange s).2.rxFresh = s.rxFresh := by unfold exchange; split <;> rfl
@[simp] theorem exchange_setpoint (s : State) : (exchange s).2.setpoint = s.setpoint := by unfold exchange; split <;> rfl
@[simp] theorem exchange_pv (s : State) : (exchange s).2.pv = s.pv := by unfold exchange; split <;> rfl
@[simp] theorem exchange_dout (s : State) : (exchange s).2.dout = s.dout := by unfold exchange; split <;> rfl
@[simp] theorem exchange_din (s : State) : (exchange s).2.din = s.din := by unfold exchange; split <;> rfl
@[simp] theorem exchange_dinNot (s : State) : (exchange s).2.dinNot = s.dinNot := by unfold exchange; split <;> rfl
@[simp] theorem exchange_txbuf (s : State) : (exchange s).2.txbuf = s.txbuf := by unfold exchange; split <;> rfl
@[simp] theorem exchange_dataOut (s : State) : (exchange s).2.dataOut = s.dataOut := by unfold exchange; split <;> rfl
@[simp] theorem exchange_axes (s : State) : (exchange s).2.axes = s.axes := by unfold exchange; split <;> rfl

/-! ## `linkFault`: LINK_STATUS, HS_STATE and ERR alone -/

@[simp] theorem linkFault_cfg (c : ErrCause) (s : State) : (linkFault c s).cfg = s.cfg := rfl
@[simp] theorem linkFault_host (c : ErrCause) (s : State) : (linkFault c s).host = s.host := rfl
@[simp] theorem linkFault_link (c : ErrCause) (s : State) : (linkFault c s).link = s.link := rfl
@[simp] theorem linkFault_coreMode (c : ErrCause) (s : State) : (linkFault c s).coreMode = s.coreMode := rfl
@[simp] theorem linkFault_linkEnable (c : ErrCause) (s : State) : (linkFault c s).linkEnable = s.linkEnable := rfl
@[simp] theorem linkFault_linkReset (c : ErrCause) (s : State) : (linkFault c s).linkReset = s.linkReset := rfl
@[simp] theorem linkFault_hwResetIn (c : ErrCause) (s : State) : (linkFault c s).hwResetIn = s.hwResetIn := rfl
@[simp] theorem linkFault_hwResetOut (c : ErrCause) (s : State) : (linkFault c s).hwResetOut = s.hwResetOut := rfl
@[simp] theorem linkFault_lastRxTag (c : ErrCause) (s : State) : (linkFault c s).lastRxTag = s.lastRxTag := rfl
@[simp] theorem linkFault_attemptCount (c : ErrCause) (s : State) : (linkFault c s).attemptCount = s.attemptCount := rfl
@[simp] theorem linkFault_dt (c : ErrCause) (s : State) : (linkFault c s).dt = s.dt := rfl
@[simp] theorem linkFault_recipDt (c : ErrCause) (s : State) : (linkFault c s).recipDt = s.recipDt := rfl
@[simp] theorem linkFault_oldPeriod (c : ErrCause) (s : State) : (linkFault c s).oldPeriod = s.oldPeriod := rfl
@[simp] theorem linkFault_prevReset (c : ErrCause) (s : State) : (linkFault c s).prevReset = s.prevReset := rfl
@[simp] theorem linkFault_rxFresh (c : ErrCause) (s : State) : (linkFault c s).rxFresh = s.rxFresh := rfl
@[simp] theorem linkFault_setpoint (c : ErrCause) (s : State) : (linkFault c s).setpoint = s.setpoint := rfl
@[simp] theorem linkFault_pv (c : ErrCause) (s : State) : (linkFault c s).pv = s.pv := rfl
@[simp] theorem linkFault_dout (c : ErrCause) (s : State) : (linkFault c s).dout = s.dout := rfl
@[simp] theorem linkFault_din (c : ErrCause) (s : State) : (linkFault c s).din = s.din := rfl
@[simp] theorem linkFault_dinNot (c : ErrCause) (s : State) : (linkFault c s).dinNot = s.dinNot := rfl
@[simp] theorem linkFault_txbuf (c : ErrCause) (s : State) : (linkFault c s).txbuf = s.txbuf := rfl
@[simp] theorem linkFault_rxbuf (c : ErrCause) (s : State) : (linkFault c s).rxbuf = s.rxbuf := rfl
@[simp] theorem linkFault_dataOut (c : ErrCause) (s : State) : (linkFault c s).dataOut = s.dataOut := rfl
@[simp] theorem linkFault_axes (c : ErrCause) (s : State) : (linkFault c s).axes = s.axes := rfl
@[simp] theorem linkFault_linkStatus (c : ErrCause) (s : State) : (linkFault c s).linkStatus = false := rfl
@[simp] theorem linkFault_hsState (c : ErrCause) (s : State) : (linkFault c s).hsState = .fault := rfl
@[simp] theorem linkFault_err (c : ErrCause) (s : State) : (linkFault c s).err = errSet c s.err := rfl

/-! ## `classify`: the handshake flags, LAST_RX_TAG and ERR alone -/

@[simp] theorem classify_cfg (b : Bool) (s : State) : (classify b s).cfg = s.cfg := by unfold classify; (repeat' split) <;> rfl
@[simp] theorem classify_host (b : Bool) (s : State) : (classify b s).host = s.host := by unfold classify; (repeat' split) <;> rfl
@[simp] theorem classify_link (b : Bool) (s : State) : (classify b s).link = s.link := by unfold classify; (repeat' split) <;> rfl
@[simp] theorem classify_coreMode (b : Bool) (s : State) : (classify b s).coreMode = s.coreMode := by unfold classify; (repeat' split) <;> rfl
@[simp] theorem classify_linkEnable (b : Bool) (s : State) : (classify b s).linkEnable = s.linkEnable := by unfold classify; (repeat' split) <;> rfl
@[simp] theorem classify_linkReset (b : Bool) (s : State) : (classify b s).linkReset = s.linkReset := by unfold classify; (repeat' split) <;> rfl
@[simp] theorem classify_hwResetIn (b : Bool) (s : State) : (classify b s).hwResetIn = s.hwResetIn := by unfold classify; (repeat' split) <;> rfl
@[simp] theorem classify_hwResetOut (b : Bool) (s : State) : (classify b s).hwResetOut = s.hwResetOut := by unfold classify; (repeat' split) <;> rfl
@[simp] theorem classify_attemptCount (b : Bool) (s : State) : (classify b s).attemptCount = s.attemptCount := by unfold classify; (repeat' split) <;> rfl
@[simp] theorem classify_dt (b : Bool) (s : State) : (classify b s).dt = s.dt := by unfold classify; (repeat' split) <;> rfl
@[simp] theorem classify_recipDt (b : Bool) (s : State) : (classify b s).recipDt = s.recipDt := by unfold classify; (repeat' split) <;> rfl
@[simp] theorem classify_oldPeriod (b : Bool) (s : State) : (classify b s).oldPeriod = s.oldPeriod := by unfold classify; (repeat' split) <;> rfl
@[simp] theorem classify_prevReset (b : Bool) (s : State) : (classify b s).prevReset = s.prevReset := by unfold classify; (repeat' split) <;> rfl
@[simp] theorem classify_setpoint (b : Bool) (s : State) : (classify b s).setpoint = s.setpoint := by unfold classify; (repeat' split) <;> rfl
@[simp] theorem classify_pv (b : Bool) (s : State) : (classify b s).pv = s.pv := by unfold classify; (repeat' split) <;> rfl
@[simp] theorem classify_dout (b : Bool) (s : State) : (classify b s).dout = s.dout := by unfold classify; (repeat' split) <;> rfl
@[simp] theorem classify_din (b : Bool) (s : State) : (classify b s).din = s.din := by unfold classify; (repeat' split) <;> rfl
@[simp] theorem classify_dinNot (b : Bool) (s : State) : (classify b s).dinNot = s.dinNot := by unfold classify; (repeat' split) <;> rfl
@[simp] theorem classify_txbuf (b : Bool) (s : State) : (classify b s).txbuf = s.txbuf := by unfold classify; (repeat' split) <;> rfl
@[simp] theorem classify_rxbuf (b : Bool) (s : State) : (classify b s).rxbuf = s.rxbuf := by unfold classify; (repeat' split) <;> rfl
@[simp] theorem classify_dataOut (b : Bool) (s : State) : (classify b s).dataOut = s.dataOut := by unfold classify; (repeat' split) <;> rfl
@[simp] theorem classify_axes (b : Bool) (s : State) : (classify b s).axes = s.axes := by unfold classify; (repeat' split) <;> rfl

/-! ## `attemptExchange`: what an exchange and its classification write -/

@[simp] theorem attemptExchange_cfg (s : State) : (attemptExchange s).cfg = s.cfg := by simp [attemptExchange]
@[simp] theorem attemptExchange_host (s : State) : (attemptExchange s).host = s.host := by simp [attemptExchange]
@[simp] theorem attemptExchange_coreMode (s : State) : (attemptExchange s).coreMode = s.coreMode := by simp [attemptExchange]
@[simp] theorem attemptExchange_linkEnable (s : State) : (attemptExchange s).linkEnable = s.linkEnable := by simp [attemptExchange]
@[simp] theorem attemptExchange_linkReset (s : State) : (attemptExchange s).linkReset = s.linkReset := by simp [attemptExchange]
@[simp] theorem attemptExchange_hwResetIn (s : State) : (attemptExchange s).hwResetIn = s.hwResetIn := by simp [attemptExchange]
@[simp] theorem attemptExchange_hwResetOut (s : State) : (attemptExchange s).hwResetOut = s.hwResetOut := by simp [attemptExchange]
@[simp] theorem attemptExchange_dt (s : State) : (attemptExchange s).dt = s.dt := by simp [attemptExchange]
@[simp] theorem attemptExchange_recipDt (s : State) : (attemptExchange s).recipDt = s.recipDt := by simp [attemptExchange]
@[simp] theorem attemptExchange_oldPeriod (s : State) : (attemptExchange s).oldPeriod = s.oldPeriod := by simp [attemptExchange]
@[simp] theorem attemptExchange_prevReset (s : State) : (attemptExchange s).prevReset = s.prevReset := by simp [attemptExchange]
@[simp] theorem attemptExchange_setpoint (s : State) : (attemptExchange s).setpoint = s.setpoint := by simp [attemptExchange]
@[simp] theorem attemptExchange_pv (s : State) : (attemptExchange s).pv = s.pv := by simp [attemptExchange]
@[simp] theorem attemptExchange_dout (s : State) : (attemptExchange s).dout = s.dout := by simp [attemptExchange]
@[simp] theorem attemptExchange_din (s : State) : (attemptExchange s).din = s.din := by simp [attemptExchange]
@[simp] theorem attemptExchange_dinNot (s : State) : (attemptExchange s).dinNot = s.dinNot := by simp [attemptExchange]
@[simp] theorem attemptExchange_txbuf (s : State) : (attemptExchange s).txbuf = s.txbuf := by simp [attemptExchange]
@[simp] theorem attemptExchange_dataOut (s : State) : (attemptExchange s).dataOut = s.dataOut := by simp [attemptExchange]
@[simp] theorem attemptExchange_axes (s : State) : (attemptExchange s).axes = s.axes := by simp [attemptExchange]

@[simp] theorem attemptExchange_attemptCount (s : State) : (attemptExchange s).attemptCount = s.attemptCount + 1 := by
  simp [attemptExchange]

/-! ## `handshake`: what an exchange and its classification write -/

@[simp] theorem handshake_cfg (s : State) : (handshake s).cfg = s.cfg := by unfold handshake; (repeat' split) <;> simp
@[simp] theorem handshake_host (s : State) : (handshake s).host = s.host := by unfold handshake; (repeat' split) <;> simp
@[simp] theorem handshake_coreMode (s : State) : (handshake s).coreMode = s.coreMode := by unfold handshake; (repeat' split) <;> simp
@[simp] theorem handshake_linkEnable (s : State) : (handshake s).linkEnable = s.linkEnable := by unfold handshake; (repeat' split) <;> simp
@[simp] theorem handshake_linkReset (s : State) : (handshake s).linkReset = s.linkReset := by unfold handshake; (repeat' split) <;> simp
@[simp] theorem handshake_hwResetIn (s : State) : (handshake s).hwResetIn = s.hwResetIn := by unfold handshake; (repeat' split) <;> simp
@[simp] theorem handshake_hwResetOut (s : State) : (handshake s).hwResetOut = s.hwResetOut := by unfold handshake; (repeat' split) <;> simp
@[simp] theorem handshake_dt (s : State) : (handshake s).dt = s.dt := by unfold handshake; (repeat' split) <;> simp
@[simp] theorem handshake_recipDt (s : State) : (handshake s).recipDt = s.recipDt := by unfold handshake; (repeat' split) <;> simp
@[simp] theorem handshake_oldPeriod (s : State) : (handshake s).oldPeriod = s.oldPeriod := by unfold handshake; (repeat' split) <;> simp
@[simp] theorem handshake_prevReset (s : State) : (handshake s).prevReset = s.prevReset := by unfold handshake; (repeat' split) <;> simp
@[simp] theorem handshake_setpoint (s : State) : (handshake s).setpoint = s.setpoint := by unfold handshake; (repeat' split) <;> simp
@[simp] theorem handshake_pv (s : State) : (handshake s).pv = s.pv := by unfold handshake; (repeat' split) <;> simp
@[simp] theorem handshake_dout (s : State) : (handshake s).dout = s.dout := by unfold handshake; (repeat' split) <;> simp
@[simp] theorem handshake_din (s : State) : (handshake s).din = s.din := by unfold handshake; (repeat' split) <;> simp
@[simp] theorem handshake_dinNot (s : State) : (handshake s).dinNot = s.dinNot := by unfold handshake; (repeat' split) <;> simp
@[simp] theorem handshake_txbuf (s : State) : (handshake s).txbuf = s.txbuf := by unfold handshake; (repeat' split) <;> simp
@[simp] theorem handshake_dataOut (s : State) : (handshake s).dataOut = s.dataOut := by unfold handshake; (repeat' split) <;> simp
@[simp] theorem handshake_axes (s : State) : (handshake s).axes = s.axes := by unfold handshake; (repeat' split) <;> simp

/-! ## `recordReset`: PREV_RESET alone -/

@[simp] theorem recordReset_cfg (s : State) : (recordReset s).cfg = s.cfg := rfl
@[simp] theorem recordReset_host (s : State) : (recordReset s).host = s.host := rfl
@[simp] theorem recordReset_link (s : State) : (recordReset s).link = s.link := rfl
@[simp] theorem recordReset_coreMode (s : State) : (recordReset s).coreMode = s.coreMode := rfl
@[simp] theorem recordReset_err (s : State) : (recordReset s).err = s.err := rfl
@[simp] theorem recordReset_linkEnable (s : State) : (recordReset s).linkEnable = s.linkEnable := rfl
@[simp] theorem recordReset_linkReset (s : State) : (recordReset s).linkReset = s.linkReset := rfl
@[simp] theorem recordReset_linkStatus (s : State) : (recordReset s).linkStatus = s.linkStatus := rfl
@[simp] theorem recordReset_hsState (s : State) : (recordReset s).hsState = s.hsState := rfl
@[simp] theorem recordReset_hwResetIn (s : State) : (recordReset s).hwResetIn = s.hwResetIn := rfl
@[simp] theorem recordReset_hwResetOut (s : State) : (recordReset s).hwResetOut = s.hwResetOut := rfl
@[simp] theorem recordReset_lastRxTag (s : State) : (recordReset s).lastRxTag = s.lastRxTag := rfl
@[simp] theorem recordReset_attemptCount (s : State) : (recordReset s).attemptCount = s.attemptCount := rfl
@[simp] theorem recordReset_dt (s : State) : (recordReset s).dt = s.dt := rfl
@[simp] theorem recordReset_recipDt (s : State) : (recordReset s).recipDt = s.recipDt := rfl
@[simp] theorem recordReset_oldPeriod (s : State) : (recordReset s).oldPeriod = s.oldPeriod := rfl
@[simp] theorem recordReset_rxFresh (s : State) : (recordReset s).rxFresh = s.rxFresh := rfl
@[simp] theorem recordReset_setpoint (s : State) : (recordReset s).setpoint = s.setpoint := rfl
@[simp] theorem recordReset_pv (s : State) : (recordReset s).pv = s.pv := rfl
@[simp] theorem recordReset_dout (s : State) : (recordReset s).dout = s.dout := rfl
@[simp] theorem recordReset_din (s : State) : (recordReset s).din = s.din := rfl
@[simp] theorem recordReset_dinNot (s : State) : (recordReset s).dinNot = s.dinNot := rfl
@[simp] theorem recordReset_txbuf (s : State) : (recordReset s).txbuf = s.txbuf := rfl
@[simp] theorem recordReset_rxbuf (s : State) : (recordReset s).rxbuf = s.rxbuf := rfl
@[simp] theorem recordReset_dataOut (s : State) : (recordReset s).dataOut = s.dataOut := rfl
@[simp] theorem recordReset_axes (s : State) : (recordReset s).axes = s.axes := rfl
@[simp] theorem recordReset_prevReset (s : State) : (recordReset s).prevReset = s.linkReset := rfl

/-! ## `decodePacket`: the feedback registers and RX_FRESH alone -/

@[simp] theorem decodePacket_cfg (s : State) : (decodePacket s).cfg = s.cfg := rfl
@[simp] theorem decodePacket_host (s : State) : (decodePacket s).host = s.host := rfl
@[simp] theorem decodePacket_link (s : State) : (decodePacket s).link = s.link := rfl
@[simp] theorem decodePacket_coreMode (s : State) : (decodePacket s).coreMode = s.coreMode := rfl
@[simp] theorem decodePacket_err (s : State) : (decodePacket s).err = s.err := rfl
@[simp] theorem decodePacket_linkEnable (s : State) : (decodePacket s).linkEnable = s.linkEnable := rfl
@[simp] theorem decodePacket_linkReset (s : State) : (decodePacket s).linkReset = s.linkReset := rfl
@[simp] theorem decodePacket_linkStatus (s : State) : (decodePacket s).linkStatus = s.linkStatus := rfl
@[simp] theorem decodePacket_hsState (s : State) : (decodePacket s).hsState = s.hsState := rfl
@[simp] theorem decodePacket_hwResetIn (s : State) : (decodePacket s).hwResetIn = s.hwResetIn := rfl
@[simp] theorem decodePacket_hwResetOut (s : State) : (decodePacket s).hwResetOut = s.hwResetOut := rfl
@[simp] theorem decodePacket_lastRxTag (s : State) : (decodePacket s).lastRxTag = s.lastRxTag := rfl
@[simp] theorem decodePacket_attemptCount (s : State) : (decodePacket s).attemptCount = s.attemptCount := rfl
@[simp] theorem decodePacket_dt (s : State) : (decodePacket s).dt = s.dt := rfl
@[simp] theorem decodePacket_recipDt (s : State) : (decodePacket s).recipDt = s.recipDt := rfl
@[simp] theorem decodePacket_oldPeriod (s : State) : (decodePacket s).oldPeriod = s.oldPeriod := rfl
@[simp] theorem decodePacket_prevReset (s : State) : (decodePacket s).prevReset = s.prevReset := rfl
@[simp] theorem decodePacket_setpoint (s : State) : (decodePacket s).setpoint = s.setpoint := rfl
@[simp] theorem decodePacket_dout (s : State) : (decodePacket s).dout = s.dout := rfl
@[simp] theorem decodePacket_txbuf (s : State) : (decodePacket s).txbuf = s.txbuf := rfl
@[simp] theorem decodePacket_rxbuf (s : State) : (decodePacket s).rxbuf = s.rxbuf := rfl
@[simp] theorem decodePacket_dataOut (s : State) : (decodePacket s).dataOut = s.dataOut := rfl
@[simp] theorem decodePacket_axes (s : State) : (decodePacket s).axes = s.axes.mapIdx fun j a => decodeAxis (rawCounter s j) a := rfl
@[simp] theorem decodePacket_pv (s : State) : (decodePacket s).pv = (List.range s.cfg.M).map (rxProcessValue s) := rfl
@[simp] theorem decodePacket_din (s : State) : (decodePacket s).din = (List.range s.cfg.K).map (rxInput s) := rfl
@[simp] theorem decodePacket_dinNot (s : State) : (decodePacket s).dinNot = (List.range s.cfg.K).map fun k => !rxInput s k := rfl
@[simp] theorem decodePacket_rxFresh (s : State) : (decodePacket s).rxFresh = false := rfl

/-! ## `writeReg`: one writable register alone -/

@[simp] theorem writeReg_cfg (s : State) (d : FxWord) (r : Reg) : (writeReg s d r).cfg = s.cfg := by
  rcases r with g | _ | _ | _ | _ | _ | _ <;> (try cases g) <;> rfl
@[simp] theorem writeReg_host (s : State) (d : FxWord) (r : Reg) : (writeReg s d r).host = s.host := by
  rcases r with g | _ | _ | _ | _ | _ | _ <;> (try cases g) <;> rfl
@[simp] theorem writeReg_link (s : State) (d : FxWord) (r : Reg) : (writeReg s d r).link = s.link := by
  rcases r with g | _ | _ | _ | _ | _ | _ <;> (try cases g) <;> rfl
@[simp] theorem writeReg_coreMode (s : State) (d : FxWord) (r : Reg) : (writeReg s d r).coreMode = s.coreMode := by
  rcases r with g | _ | _ | _ | _ | _ | _ <;> (try cases g) <;> rfl
@[simp] theorem writeReg_err (s : State) (d : FxWord) (r : Reg) : (writeReg s d r).err = s.err := by
  rcases r with g | _ | _ | _ | _ | _ | _ <;> (try cases g) <;> rfl
@[simp] theorem writeReg_linkStatus (s : State) (d : FxWord) (r : Reg) : (writeReg s d r).linkStatus = s.linkStatus := by
  rcases r with g | _ | _ | _ | _ | _ | _ <;> (try cases g) <;> rfl
@[simp] theorem writeReg_hsState (s : State) (d : FxWord) (r : Reg) : (writeReg s d r).hsState = s.hsState := by
  rcases r with g | _ | _ | _ | _ | _ | _ <;> (try cases g) <;> rfl
@[simp] theorem writeReg_hwResetOut (s : State) (d : FxWord) (r : Reg) : (writeReg s d r).hwResetOut = s.hwResetOut := by
  rcases r with g | _ | _ | _ | _ | _ | _ <;> (try cases g) <;> rfl
@[simp] theorem writeReg_lastRxTag (s : State) (d : FxWord) (r : Reg) : (writeReg s d r).lastRxTag = s.lastRxTag := by
  rcases r with g | _ | _ | _ | _ | _ | _ <;> (try cases g) <;> rfl
@[simp] theorem writeReg_attemptCount (s : State) (d : FxWord) (r : Reg) : (writeReg s d r).attemptCount = s.attemptCount := by
  rcases r with g | _ | _ | _ | _ | _ | _ <;> (try cases g) <;> rfl
@[simp] theorem writeReg_dt (s : State) (d : FxWord) (r : Reg) : (writeReg s d r).dt = s.dt := by
  rcases r with g | _ | _ | _ | _ | _ | _ <;> (try cases g) <;> rfl
@[simp] theorem writeReg_recipDt (s : State) (d : FxWord) (r : Reg) : (writeReg s d r).recipDt = s.recipDt := by
  rcases r with g | _ | _ | _ | _ | _ | _ <;> (try cases g) <;> rfl
@[simp] theorem writeReg_oldPeriod (s : State) (d : FxWord) (r : Reg) : (writeReg s d r).oldPeriod = s.oldPeriod := by
  rcases r with g | _ | _ | _ | _ | _ | _ <;> (try cases g) <;> rfl
@[simp] theorem writeReg_prevReset (s : State) (d : FxWord) (r : Reg) : (writeReg s d r).prevReset = s.prevReset := by
  rcases r with g | _ | _ | _ | _ | _ | _ <;> (try cases g) <;> rfl
@[simp] theorem writeReg_rxFresh (s : State) (d : FxWord) (r : Reg) : (writeReg s d r).rxFresh = s.rxFresh := by
  rcases r with g | _ | _ | _ | _ | _ | _ <;> (try cases g) <;> rfl
@[simp] theorem writeReg_pv (s : State) (d : FxWord) (r : Reg) : (writeReg s d r).pv = s.pv := by
  rcases r with g | _ | _ | _ | _ | _ | _ <;> (try cases g) <;> rfl
@[simp] theorem writeReg_din (s : State) (d : FxWord) (r : Reg) : (writeReg s d r).din = s.din := by
  rcases r with g | _ | _ | _ | _ | _ | _ <;> (try cases g) <;> rfl
@[simp] theorem writeReg_dinNot (s : State) (d : FxWord) (r : Reg) : (writeReg s d r).dinNot = s.dinNot := by
  rcases r with g | _ | _ | _ | _ | _ | _ <;> (try cases g) <;> rfl
@[simp] theorem writeReg_txbuf (s : State) (d : FxWord) (r : Reg) : (writeReg s d r).txbuf = s.txbuf := by
  rcases r with g | _ | _ | _ | _ | _ | _ <;> (try cases g) <;> rfl
@[simp] theorem writeReg_rxbuf (s : State) (d : FxWord) (r : Reg) : (writeReg s d r).rxbuf = s.rxbuf := by
  rcases r with g | _ | _ | _ | _ | _ | _ <;> (try cases g) <;> rfl
@[simp] theorem writeReg_dataOut (s : State) (d : FxWord) (r : Reg) : (writeReg s d r).dataOut = s.dataOut := by
  rcases r with g | _ | _ | _ | _ | _ | _ <;> (try cases g) <;> rfl

end Sys2Proof.Machine
end

