-- ==== Sys2Proof/Laws/Exec.lean ====
section
/-! SUPPORT. What each operation and each step can do, said once: if it answers a next state, then one of these cases
holds. Later proofs cite these lemmas and do not unfold the meanings. -/

namespace Sys2Proof.Machine

@[simp] theorem ne_config_iff (m : CoreMode) : ¬ m = .config ↔ m = .run := by cases m <;> simp
@[simp] theorem ne_run_iff (m : CoreMode) : ¬ m = .run ↔ m = .config := by cases m <;> simp

/-! ## The operations -/

theorem exec_nop_cases {s t : State} (h : exec .nop s = .next t) : t = s := by
  simpa [exec, execNop] using h.symm

theorem exec_init_cases {s t : State} (h : exec .init s = .next t) :
    (s.coreMode = .run ∧ t = s) ∨
    (s.coreMode = .config ∧ s.axes.all axisTagsOk = true ∧ t = { s with coreMode := .run }) ∨
    (s.coreMode = .config ∧ s.axes.all axisTagsOk = false ∧ t = raise .cfgErr s) := by
  simp only [exec, execInit] at h
  split at h
  · exact .inl ⟨‹_›, by simpa using h.symm⟩
  · split at h
    · exact .inr (.inl ⟨by simpa using ‹¬ s.coreMode = .run›, ‹_›, by simpa using h.symm⟩)
    · exact .inr (.inr ⟨by simpa using ‹¬ s.coreMode = .run›, by simpa using ‹¬ s.axes.all axisTagsOk = true›,
        by simpa using h.symm⟩)

theorem exec_cmdgen_cases {p : Word32} {s t : State} (h : exec (.cmdgen p) s = .next t) :
    (s.coreMode = .config ∧ t = raise .notRun s) ∨
    (s.coreMode = .run ∧ p.toInt ≤ 0 ∧ t = raise .periodErr s) ∨
    (s.coreMode = .run ∧ 0 < p.toInt ∧ s.axes.all modeTagOk = true ∧ t = stepAxes (cacheTick p s)) := by
  simp only [exec, execCmdgen] at h
  split at h
  · exact .inl ⟨‹_›, by simpa using h.symm⟩
  · have hr : s.coreMode = .run := by simpa using ‹¬ s.coreMode = .config›
    split at h
    · exact .inr (.inl ⟨hr, ‹_›, by simpa using h.symm⟩)
    · split at h
      · exact .inr (.inr ⟨hr, by omega, ‹_›, by simpa using h.symm⟩)
      · cases h

theorem exec_linkWrite_cases {s t : State} (h : exec .linkWrite s = .next t) :
    (s.coreMode = .config ∧ t = raise .notRun s) ∨
    (s.coreMode = .run ∧ t = recordReset (handshake (prepareLink s))) := by
  simp only [exec, execLinkWrite] at h
  split at h
  · exact .inl ⟨‹_›, by simpa using h.symm⟩
  · exact .inr ⟨by simpa using ‹¬ s.coreMode = .config›, by simpa using h.symm⟩

theorem exec_linkRead_cases {s t : State} (h : exec .linkRead s = .next t) :
    (s.coreMode = .config ∧ t = raise .notRun s) ∨
    (s.coreMode = .run ∧ s.rxFresh = false ∧ t = s) ∨
    (s.coreMode = .run ∧ s.rxFresh = true ∧ s.axes.all fbTypeTagOk = true ∧ t = decodePacket s) := by
  simp only [exec, execLinkRead] at h
  split at h
  · exact .inl ⟨‹_›, by simpa using h.symm⟩
  · have hr : s.coreMode = .run := by simpa using ‹¬ s.coreMode = .config›
    split at h
    · exact .inr (.inl ⟨hr, by simpa using ‹(!s.rxFresh) = true›, by simpa using h.symm⟩)
    · split at h
      · exact .inr (.inr ⟨hr, by simpa using ‹¬ (!s.rxFresh) = true›, ‹_›, by simpa using h.symm⟩)
      · cases h

theorem exec_regWrite_cases {a : RegAddr} {d : FxWord} {s t : State} (h : exec (.regWrite a d) s = .next t) :
    (regAt s.cfg a = none ∧ t = raise .badAddr s) ∨ ∃ r, regAt s.cfg a = some r ∧ t = writeMapped r d s := by
  simp only [exec, execRegWrite] at h
  split at h
  · exact .inl ⟨‹_›, by simpa using h.symm⟩
  · exact .inr ⟨_, ‹_›, by simpa using h.symm⟩

theorem exec_regRead_cases {a : RegAddr} {s t : State} (h : exec (.regRead a) s = .next t) :
    (regAt s.cfg a = none ∧ t = raise .badAddr { s with dataOut := 0 }) ∨
    ∃ r, regAt s.cfg a = some r ∧ t = { s with dataOut := readReg s r } := by
  simp only [exec, execRegRead] at h
  split at h
  · exact .inl ⟨‹_›, by simpa using h.symm⟩
  · exact .inr ⟨_, ‹_›, by simpa using h.symm⟩

/-! ## The shared operations of REG_WRITE and LINK_WRITE -/

theorem writeMapped_cases (r : Reg) (d : FxWord) (s : State) :
    (regAccess r = .ro ∧ writeMapped r d s = raise .roWrite s) ∨
    (regAccess r = .rwc ∧ s.coreMode = .run ∧ writeMapped r d s = raise .cfgLocked s) ∨
    (regAccess r = .rwc ∧ s.coreMode = .config ∧ writeMapped r d s = writeReg s d r) ∨
    (regAccess r = .w1c ∧ writeMapped r d s = writeErr s d) ∨
    (regAccess r = .rw ∧ writeMapped r d s = writeReg s d r) := by
  unfold writeMapped
  cases h : regAccess r <;> cases hm : s.coreMode <;> simp

theorem exchange_cases (s : State) :
    (remoteAnswer s.link (exchangeLen s.cfg) = .abort ∧ exchange s = (.abort, driveExchange s)) ∨
    ∃ rx, remoteAnswer s.link (exchangeLen s.cfg) = .complete rx ∧
      exchange s = (.complete (captureStream s.cfg.transport rx),
        { driveExchange s with rxbuf := memWriteBytes [] 0 (captureStream s.cfg.transport rx) }) := by
  unfold exchange
  cases h : remoteAnswer s.link (exchangeLen s.cfg) with
  | abort => simp
  | complete rx => exact .inr ⟨rx, rfl, rfl⟩

theorem classify_cases (b : Bool) (s : State) :
    (b = true ∧ classify b s = linkFault .xferFail s) ∨
    (b = false ∧ rxTag s = s.cfg.tagData ∧
      classify b s = { s with lastRxTag := rxTag s, linkStatus := true, hsState := .active, rxFresh := true }) ∨
    (b = false ∧ rxTag s ≠ s.cfg.tagData ∧ rxTag s = s.cfg.tagEstop ∧
      classify b s = linkFault .estop { s with lastRxTag := rxTag s }) ∨
    (b = false ∧ rxTag s ≠ s.cfg.tagData ∧ rxTag s ≠ s.cfg.tagEstop ∧
      classify b s = linkFault .badTag { s with lastRxTag := rxTag s }) := by
  unfold classify
  cases b with
  | true => simp
  | false =>
    by_cases h1 : rxTag s = s.cfg.tagData
    · exact .inr (.inl ⟨rfl, h1, by rw [if_neg (by simp), if_pos h1]⟩)
    · by_cases h2 : rxTag s = s.cfg.tagEstop
      · exact .inr (.inr (.inl ⟨rfl, h1, h2, by rw [if_neg (by simp), if_neg h1, if_pos h2]⟩))
      · exact .inr (.inr (.inr ⟨rfl, h1, h2, by rw [if_neg (by simp), if_neg h1, if_neg h2]⟩))

theorem handshake_cases (s : State) :
    (s.linkEnable = false ∧ handshake s = { s with linkStatus := false, hsState := .disabled }) ∨
    (s.linkEnable = true ∧ attempts s = true ∧ handshake s = attemptExchange s) ∨
    (s.linkEnable = true ∧ attempts s = false ∧ s.hsState = .disabled ∧ handshake s = { s with hsState := .armed }) ∨
    (s.linkEnable = true ∧ attempts s = false ∧ s.hsState ≠ .disabled ∧ handshake s = s) := by
  unfold handshake
  cases h : s.linkEnable
  · simp
  · by_cases h1 : attempts s = true
    · simp [h1]
    · by_cases h2 : s.hsState = .disabled <;> simp_all

theorem linkAfterExchange_idle (t : Transport) (tx : List Byte) (l : LinkPort) :
    (linkAfterExchange t tx l).csN = true ∧ (linkAfterExchange t tx l).sclk = false ∧
      (linkAfterExchange t tx l).wstb = false ∧ (linkAfterExchange t tx l).exchanges = l.exchanges + 1 ∧
      (linkAfterExchange t tx l).answers = l.answers.tail ∧
      (linkAfterExchange t tx l).frames = l.frames ++ [frameEvents t tx] := by
  simp [linkAfterExchange]

/-- BuildTx keeps the canonical form of TXBUF. -/
theorem buildTx_wf {s : State} (h : s.txbuf.wf = true) : (buildTx s).txbuf.wf = true := by
  simp only [buildTx]
  exact memWriteBytes_wf (memWriteBytes_wf (memWriteWords_wf (memWriteBytes_wf (memWriteWords_wf
    (memWrite_wf h _ _ _) _ _) _ _) _ _) _ _) _ _

/-- An exchange keeps the canonical form of RXBUF. -/
theorem exchange_rx_wf {s : State} (h : s.rxbuf.wf = true) : (exchange s).2.rxbuf.wf = true := by
  rcases exchange_cases s with ⟨-, e⟩ | ⟨rx, -, e⟩ <;> rw [e]
  · exact h
  · exact memWriteBytes_wf wf_nil _ _

/-! ## A step -/

theorem thenState_next {o : Host.Outcome State Fault Refusal} {f : State → State} {t : State}
    (h : thenState o f = .next t) : ∃ u, o = .next u ∧ t = f u := by
  cases o with
  | next u => exact ⟨u, rfl, by simpa [thenState] using h.symm⟩
  | fault r => simp [thenState] at h
  | refused r => simp [thenState] at h

theorem performCommand_cases {c : Command} {s t : State} (h : performCommand c s = .next t) :
    (∃ why, decode c.cmd c.dataIn = .illegal why ∧ t = completeCommand (raise .illegalCmd s)) ∨
    ∃ i u, decode c.cmd c.dataIn = .instr i ∧ exec i s = .next u ∧ t = completeCommand u := by
  simp only [performCommand] at h
  split at h
  · exact .inl ⟨_, ‹_›, by simpa using h.symm⟩
  · obtain ⟨u, hu, rfl⟩ := thenState_next h
    exact .inr ⟨_, u, ‹_›, hu, rfl⟩

/-- What a step can do: idle, a command, a command not accepted in reset, or a change of RST_N. -/
theorem step_cases {s t : State} (h : step s = .next t) :
    (s.host.events = [] ∧ t = s) ∨
    (∃ c es, s.host.events = .command c :: es ∧ s.host.rstN = true ∧ performCommand c (takeEvent s) = .next t) ∨
    (∃ c es, s.host.events = .command c :: es ∧ s.host.rstN = false ∧ t = takeEvent s) ∨
    (∃ es, s.host.events = .rstHigh :: es ∧ t = leaveReset (takeEvent s)) ∨
    ((∃ es, s.host.events = .rstLow :: es ∨ ∃ c, s.host.events = .commandCut c :: es) ∧
      t = enterReset (takeEvent s)) := by
  unfold step at h
  cases he : s.host.events with
  | nil =>
    rw [he] at h
    exact .inl ⟨rfl, by simpa using h.symm⟩
  | cons e es =>
    rw [he] at h
    cases e with
    | command c =>
      cases hr : s.host.rstN
      · exact .inr (.inr (.inl ⟨c, es, rfl, rfl, by simpa [hostEvent, hr] using h.symm⟩))
      · exact .inr (.inl ⟨c, es, rfl, rfl, by simpa [hostEvent, hr] using h⟩)
    | rstLow => exact .inr (.inr (.inr (.inr ⟨⟨es, .inl rfl⟩, by simpa [hostEvent] using h.symm⟩)))
    | rstHigh => exact .inr (.inr (.inr (.inl ⟨es, rfl, by simpa [hostEvent] using h.symm⟩)))
    | commandCut c => exact .inr (.inr (.inr (.inr ⟨⟨es, .inr ⟨c, rfl⟩⟩, by simpa [hostEvent] using h.symm⟩)))

end Sys2Proof.Machine
end

