-- ==== Sys2Proof/Laws/PerInstr.lean ====
section
/-! SUPPORT. Laws made per operation: the CMD word the encoder gives an operation is a legal word (spec/30_encoding.md
R85) of the operation's own row of the opcode table. -/

namespace Sys2Proof.Laws

/-- The encoded CMD word is legal, and it is of the row with the operation's mnemonic and of no other row. -/
def LegalEncoding.Statement (i : Instr) : Prop :=
  cmdLegal (encode i).1 = true ∧ ∀ r ∈ opcodeRows, r.covers (encode i).1 = true ↔ r.mnemonic = i.mnemonic

/-- Each bit of a CMD word: ADDR in bits 15:0, RSV = 0 in bits 23:16, OPC in bits 31:24. -/
theorem getLsbD_cmdWord (opc : BitVec 8) (addr : RegAddr) (i : Nat) :
    (cmdWord opc addr).getLsbD i =
      if i < 16 then addr.getLsbD i else if i < 24 then false else opc.getLsbD (i - 24) := by
  unfold cmdWord
  rw [BitVec.getLsbD_append, BitVec.getLsbD_append]
  by_cases h1 : i < 16
  · simp [h1, show i < 24 by omega]
  · by_cases h2 : i < 24 <;> simp [h1, h2]

/-- A CMD word with a register address: the mask of REG_WRITE and REG_READ leaves OPC and RSV. -/
theorem cmdWord_and_highMask (opc : BitVec 8) (addr : RegAddr) :
    cmdWord opc addr &&& 0xFFFF0000#32 = cmdWord opc 0 := by
  apply BitVec.eq_of_getLsbD_eq
  intro i hi
  rw [BitVec.getLsbD_and, getLsbD_cmdWord, getLsbD_cmdWord]
  by_cases h : i < 16
  · have : (0xFFFF0000#32).getLsbD i = false := by interval_cases i <;> decide
    simp [h, this]
  · have : (0xFFFF0000#32).getLsbD i = true := by interval_cases i <;> decide
    simp [h, this]

theorem cmdWord_and_allOnes (opc : BitVec 8) (addr : RegAddr) :
    cmdWord opc addr &&& 0xFFFFFFFF#32 = cmdWord opc addr := by
  rw [show (0xFFFFFFFF#32 : BitVec 32) = BitVec.allOnes 32 from by decide]
  exact BitVec.and_allOnes

theorem opc_of_cmdWord (opc : BitVec 8) (addr : RegAddr) : (cmdWord opc addr).extractLsb' 24 8 = opc := by
  apply BitVec.eq_of_getLsbD_eq
  intro i hi
  rw [BitVec.getLsbD_extractLsb', getLsbD_cmdWord, if_neg (by omega), if_neg (by omega)]
  simp [hi]

theorem rsv_of_cmdWord (opc : BitVec 8) (addr : RegAddr) : (cmdWord opc addr).extractLsb' 16 8 = 0#8 := by
  apply BitVec.eq_of_getLsbD_eq
  intro i hi
  rw [BitVec.getLsbD_extractLsb', getLsbD_cmdWord, if_neg (by omega), if_pos (by omega)]
  simp

/-- Two CMD words agree only if their OPC fields do. -/
theorem cmdWord_opc_inj {o o' : BitVec 8} {a a' : RegAddr} (h : cmdWord o a = cmdWord o' a') : o = o' := by
  rw [← opc_of_cmdWord o a, h, opc_of_cmdWord]

theorem LegalEncoding.nop : LegalEncoding.Statement .nop := by
  unfold LegalEncoding.Statement
  decide

theorem LegalEncoding.init : LegalEncoding.Statement .init := by
  unfold LegalEncoding.Statement
  decide

theorem LegalEncoding.cmdgen (p : Word32) : LegalEncoding.Statement (.cmdgen p) := by
  show cmdLegal (cmdWord 0x02 0) = true ∧
    ∀ r ∈ opcodeRows, r.covers (cmdWord 0x02 0) = true ↔ r.mnemonic = "CMDGEN"
  decide

theorem LegalEncoding.linkWrite : LegalEncoding.Statement .linkWrite := by
  unfold LegalEncoding.Statement
  decide

theorem LegalEncoding.linkRead : LegalEncoding.Statement .linkRead := by
  unfold LegalEncoding.Statement
  decide

/-- A row that fixes the whole CMD word does not cover a word of another OPC. -/
theorem not_covers_of_opc {r : OpcodeRow} {o : BitVec 8} {a : RegAddr} (h : r.mask = 0xFFFFFFFF#32)
    (ho : r.bits.extractLsb' 24 8 ≠ o) : r.covers (cmdWord o a) = false := by
  unfold OpcodeRow.covers
  rw [h, cmdWord_and_allOnes, beq_eq_false_iff_ne]
  intro e
  exact ho (by rw [← e, opc_of_cmdWord])

/-- A row that leaves ADDR open covers a word exactly when the word with ADDR = 0 is its pattern. -/
theorem covers_of_highMask {r : OpcodeRow} {o : BitVec 8} {a : RegAddr} (h : r.mask = 0xFFFF0000#32) :
    r.covers (cmdWord o a) = (cmdWord o 0 == r.bits) := by
  unfold OpcodeRow.covers
  rw [h, cmdWord_and_highMask]

theorem LegalEncoding.regWrite (a : RegAddr) (d : FxWord) : LegalEncoding.Statement (.regWrite a d) := by
  show cmdLegal (cmdWord 0x05 a) = true ∧
    ∀ r ∈ opcodeRows, r.covers (cmdWord 0x05 a) = true ↔ r.mnemonic = "REG_WRITE"
  constructor
  · simp [cmdLegal, cmdRsvZero, cmdOpcodeDefined, cmdAddrAllowed, opc_of_cmdWord, rsv_of_cmdWord]
  · intro r hr
    simp only [opcodeRows, List.mem_cons, List.not_mem_nil, or_false] at hr
    rcases hr with rfl | rfl | rfl | rfl | rfl | rfl | rfl
    · rw [not_covers_of_opc rfl (by decide)]; decide
    · rw [not_covers_of_opc rfl (by decide)]; decide
    · rw [not_covers_of_opc rfl (by decide)]; decide
    · rw [not_covers_of_opc rfl (by decide)]; decide
    · rw [not_covers_of_opc rfl (by decide)]; decide
    · rw [covers_of_highMask rfl]; decide
    · rw [covers_of_highMask rfl]; decide

theorem LegalEncoding.regRead (a : RegAddr) : LegalEncoding.Statement (.regRead a) := by
  show cmdLegal (cmdWord 0x06 a) = true ∧
    ∀ r ∈ opcodeRows, r.covers (cmdWord 0x06 a) = true ↔ r.mnemonic = "REG_READ"
  constructor
  · simp [cmdLegal, cmdRsvZero, cmdOpcodeDefined, cmdAddrAllowed, opc_of_cmdWord, rsv_of_cmdWord]
  · intro r hr
    simp only [opcodeRows, List.mem_cons, List.not_mem_nil, or_false] at hr
    rcases hr with rfl | rfl | rfl | rfl | rfl | rfl | rfl
    · rw [not_covers_of_opc rfl (by decide)]; decide
    · rw [not_covers_of_opc rfl (by decide)]; decide
    · rw [not_covers_of_opc rfl (by decide)]; decide
    · rw [not_covers_of_opc rfl (by decide)]; decide
    · rw [not_covers_of_opc rfl (by decide)]; decide
    · rw [covers_of_highMask rfl]; decide
    · rw [covers_of_highMask rfl]; decide

end Sys2Proof.Laws
end

