-- ==== Sys2Proof/Tests/Slice0.lean ====
section
/-! SUPPORT. Tests on values that spec/ works out (95_test_vectors.md and the rules' own examples), the smoke test of
WellFormed, and for every statement with hypotheses a witness that meets them. -/

namespace Sys2Proof.Tests

open Sys2Proof Sys2Proof.Machine

/-! ## Helpers -/

/-- The next state of an outcome. -/
def nextOf (o : Host.Outcome State Fault Refusal) : Option State :=
  match o with
  | .next s => some s
  | .fault _ => none
  | .refused _ => none

/-- The reset state in RUN mode. -/
def running : State := { State.reset with coreMode := .run }

/-- RUN mode after a 1 ms tick, the link active: LINK_ENABLE, LINK_RESET, PREV_RESET and LINK_STATUS are 1. -/
def active : State :=
  { running with
    oldPeriod := 1000000, dt := 18446744073709551, recipDt := 18446744073709552232000
    linkEnable := true, linkReset := true, prevReset := true, linkStatus := true, hsState := .active }

/-- RUN mode, enabled and stopped after a failed exchange, LINK_RESET = PREV_RESET = 1. -/
def stopped : State :=
  { running with linkEnable := true, linkReset := true, prevReset := true, hsState := .fault }

/-- A core whose next host event is this one. -/
def withEvent (s : State) (e : HostEvent) : State := { s with host := { s.host with events := [e] } }

/-- A core whose remote end answers this next. -/
def withAnswer (s : State) (a : RemoteAnswer) : State := { s with link := { s.link with answers := [a] } }

/-- An 18-byte answer with this tag and zeros after it. -/
def answer (b0 b1 b2 b3 : Byte) : RemoteAnswer := .complete ([b0, b1, b2, b3] ++ List.replicate 14 0)

/-- TAG_DATA on the wire (V3-11). -/
def dataAnswer : RemoteAnswer := answer 0x61 0x74 0x61 0x64

/-- TAG_ESTOP on the wire (V3-11). -/
def estopAnswer : RemoteAnswer := answer 0x70 0x74 0x73 0x65

/-- The active link with a TAG_DATA answer and a LINK_WRITE to come. -/
def activeNext : State := withEvent (withAnswer active dataAnswer) (.command ⟨0x03000000, 0⟩)

/-! ## WellFormed refuses an ill-formed term of each check -/

theorem test_wf_example : Params.example95.wellFormed = true := by decide
theorem test_wf_refuses_no_axis : ({ Params.example95 with J := 0 } : Params).wellFormed = false := by decide
theorem test_wf_refuses_129_axes : ({ Params.example95 with J := 129 } : Params).axesInRange = false := by decide
theorem test_wf_refuses_257_channels : ({ Params.example95 with K := 257 } : Params).channelsInRange = false := by decide
theorem test_wf_refuses_base_zero : ({ Params.example95 with baseFreqHz := 0 } : Params).baseInRange = false := by decide
theorem test_wf_refuses_base_2_32 : ({ Params.example95 with baseFreqHz := 2 ^ 32 } : Params).baseInRange = false := by
  decide
theorem test_wf_refuses_equal_tags :
    ({ Params.example95 with tagEstop := 0x64617461 } : Params).tagsDiffer = false := by decide
theorem test_wf_refuses_rsv : cmdRsvZero 0x02010000 = false := by decide
theorem test_wf_refuses_opcode : cmdOpcodeDefined 0x07000000 = false := by decide
theorem test_wf_refuses_addr : cmdAddrAllowed 0x03000005 = false := by decide
theorem test_wf_refuses_channel : (Reg.setpoint 1).mapped Params.example95 = false := by decide
theorem test_wf_refuses_axis : (Reg.axis 2 .mode).mapped Params.example95 = false := by decide
theorem test_wf_refuses_address : (AsmReg.address 0x10000).wellFormed Params.example95 = false := by decide
theorem test_wf_refuses_period : asmPeriodWellFormed (2 ^ 31) = false := by decide
theorem test_wf_refuses_line : (AsmLine.enableAxis 2).wellFormed Params.example95 = false := by decide

/-! ## Decoding, words written out from 30_encoding.md R82, R84, R89 (V5-1 to V5-13e) -/

theorem test_decode_nop : decode 0x00000000 5 = .instr .nop := by decide
theorem test_decode_init : decode 0x01000000 0 = .instr .init := by decide
theorem test_decode_cmdgen : decode 0x02000000 (2 ^ 32 + 1000000) = .instr (.cmdgen 1000000) := by decide
theorem test_decode_linkWrite : decode 0x03000000 0 = .instr .linkWrite := by decide
theorem test_decode_linkRead : decode 0x04000000 0 = .instr .linkRead := by decide
theorem test_decode_regWrite :
    decode 0x0500102A 340282366920938463417257747247494332416 =
      .instr (.regWrite 0x102A 340282366920938463417257747247494332416) := by decide
theorem test_decode_regRead : decode 0x06001003 0 = .instr (.regRead 0x1003) := by decide
theorem test_decode_reserved : decode 0xFF000000 0 = .illegal .reservedOpcode := by decide
theorem test_decode_rsv : decode 0x02010000 1000000 = .illegal .nonzeroRsv := by decide
theorem test_decode_stray : decode 0x00000001 0 = .illegal .strayAddr := by decide
theorem test_table_word : decodeTableWord 32 0x0600100D = some (.regRead 0x100D) := by decide
theorem test_encode_bits : (encode (.regWrite 0x1003 7)).1 = 0x05001003 := by decide
theorem test_assemble :
    assemble (.regWrite (.name (.axis 1 .velCmd)) (.fx (-25) 1)) =
      [.regWrite 0x102A 340282366920938463417257747247494332416] := by decide
/-- The least decimal of the FX range has a word of its own; the first one above the range has a free value (log 19). -/
theorem test_asm_fx_range :
    asmOperand (.fx (-2 ^ 63) 0) = fxWord fxMin ∧ asmOperand (.fx (2 ^ 63) 0) = Config.fxBeyondRange (2 ^ 63) 0 :=
  ⟨by decide, by unfold asmOperand fxOperand; exact if_neg (by decide)⟩

theorem test_asm_text : asmText (.regWrite (.name (.axis 0 .scale)) (.fx 1000 0)) = "REG_WRITE AX0.SCALE, fx(1000)" := by
  decide

theorem test_asm_read :
    (["NOP", "REG_WRITE AX1.VEL_CMD, fx(-2.5) ; a comment", "REG_READ 0x100D", "CLRERR", "; nothing", "REG_READ AX2.MODE",
      "REG_WRITE DIN_NOT7,-1", "TICK 1000000", "JUMP 1"].map (assembleText Params.example95)) =
      [some [.nop], some [.regWrite 0x102A 340282366920938463417257747247494332416], some [.regRead 0x100D],
        some [.regWrite 0x0001 0xFFFFFFFF], some [], none, some [.regWrite 0x0507 (BitVec.ofInt 128 (-1))],
        some [.cmdgen 1000000, .linkWrite, .linkRead], none] := by decide

/-! ## Arithmetic (95_test_vectors.md section 6, V2-1, V3-2) -/

theorem test_tdiv : [tdiv 7 2, tdiv (-7) 2, tdiv 7 (-2), tdiv (-7) (-2)] = [3, -3, -3, 3] := by decide
theorem test_saturation :
    [fxNeg fxMin, fxAbs fxMin, fxAdd fxMax 1, fxSub fxMin 1, fxMul fxMin fxMin, fxDiv fxOne 1, fxDiv fxMin (-fxOne)] =
      [fxMax, fxMax, fxMax, fxMin, fxMax, fxMax, fxMax] := by decide
theorem test_truncation :
    [fxMul 1 1, fxMul (-1) fxHalf, fxMul (3 * fxHalf) (-2 * fxOne), fxDiv (-fxOne) (3 * fxOne)] =
      [0, 0, -3 * fxOne, -6148914691236517205] := by decide
theorem test_literals :
    [fxLiteral 1 1000, fxLiteral (-25) 10, fxLiteral 1 10] =
      [18446744073709551, -46116860184273879040, 1844674407370955161] := by decide
theorem test_tick_1ns : (tickSeconds 1, fxDiv fxOne (tickSeconds 1)) = (18446744073, 18446744074419103232027292810) := by
  decide
theorem test_freqWord_ceiling :
    [freqRatio 1000000 9223372036854775808000000, freqRatio 1000000 (-9223372036854775808000000),
      freqRatio 1000000 (-18446744073709551616000)] = [2 ^ 31 - 1, -2 ^ 31, -4294967] := by decide

/-! ## One step of each operation -/

/-- V5-1: NOP from the reset state. -/
theorem test_nop : nextOf (exec .nop State.reset) = some State.reset := by decide

/-- V5-19: INIT with ax[1].MODE = 2. -/
theorem test_init_refuses :
    (nextOf (exec .init { State.reset with axes := [Axis.reset, { Axis.reset with mode := 2 }] })).map
      (fun t => (t.coreMode, t.err)) = some (.config, 1) := by decide

theorem test_init_runs : (nextOf (exec .init State.reset)).map (fun t => (t.coreMode, t.err)) = some (.run, 0) := by
  decide

/-- V2-19: velocity mode on a reversed axis. -/
theorem test_cmdgen_reversed_axis :
    (nextOf (exec (.cmdgen 1000000) { running with axes :=
      [{ Axis.reset with mode := 1, enable := true, scale := fxWord (-7378697629483820646400),
                         velCmd := fxWord (-46116860184273879040) }] })).map
      (fun t => t.axes.map fun a => (fxVal a.freqCmd, fxVal a.scaleRecip, a.prevCmd)) =
      some [(18446744073709551616000, -46116860184273879, 0)] := by decide

/-- L1-2, tick 0: the position law with its defaults, clamped and slewed. -/
theorem test_cmdgen_position :
    (nextOf (exec (.cmdgen 1000000) { running with axes :=
      [{ Axis.reset with enable := true, scale := fxWord (1000 * fxOne), pgain := fxWord fxOne,
                         posCmd := fxWord fxOne }] })).map
      (fun t => (fxVal t.dt, fxVal t.recipDt, t.axes.map fun a => (fxVal a.freqCmd, fxVal a.prevCmd))) =
      some (18446744073709551, 18446744073709552232000, [(9223372036854775807999999, 18446744073709551616)]) := by
  decide

/-- V3-1: the packet of 30_encoding.md R99. -/
theorem test_linkWrite_packet :
    (nextOf (exec .linkWrite { running with
      axes := [{ Axis.reset with freqCmd := fxWord (1000 * fxOne), enable := true }, Axis.reset]
      setpoint := [0x12345678], dout := [true, false, false, true, false, false, false, false] })).map
      (fun t => memBytes t.txbuf 18) =
      some [0x74, 0x69, 0x72, 0x77, 0x37, 0x89, 0x41, 0, 0, 0, 0, 0, 1, 0x78, 0x56, 0x34, 0x12, 9] := by decide

/-- V3-7: an e-stop answer. -/
theorem test_linkWrite_estop :
    (nextOf (exec .linkWrite (withAnswer active estopAnswer))).map
      (fun t => (t.hsState, t.linkStatus, t.rxFresh, t.attemptCount, t.err, t.lastRxTag)) =
      some (.fault, false, false, 1, 0x80, 0x65737470) := by decide

/-- V4-10, step 2: the counter wraps past 0x7FFFFFFF. -/
theorem test_linkRead_rollover :
    (nextOf (exec .linkRead { running with rxFresh := true, rxbuf := [(4, 0x10), (7, 0x80)], axes :=
      [{ Axis.reset with fbType := 1, scale := fxWord (1000 * fxOne), count := 2147483632,
                         oldCount := 0x7FFFFFF0 }] })).map
      (fun t => t.axes.map fun a => (a.count.toInt, a.oldCount.toInt, fxVal a.posFb)) =
      some [(2147483664, -2147483632, 39614081561503446012979576)] := by decide

/-- V4-1b, V4-11, V4-12: an Absolute axis, a process value, and the inputs of byte 0xA5. -/
theorem test_linkRead_absolute :
    (nextOf (exec .linkRead { running with
      rxFresh := true
      rxbuf := [(4, 7), (12, 0xEF), (13, 0xBE), (14, 0xAD), (15, 0xDE), (16, 0xA5)]
      axes := [{ Axis.reset with scale := fxWord (-4 * fxOne) }, Axis.reset] })).map
      (fun t => (t.axes.map (fun a => fxVal a.posFb), t.pv, t.din, t.rxFresh)) =
      some ([-32281802128991715328, 0], [0xDEADBEEF], [true, false, true, false, false, true, false, true], false) := by
  decide

/-- V5-17: the W1C write of ERR. -/
theorem test_regWrite_w1c :
    (nextOf (exec (.regWrite 0x0001 0x80) { running with err := 0x180 })).map (fun t => t.err) = some 0x100 := by decide

/-- V5-18: the operand is truncated to one bit. -/
theorem test_regWrite_truncates :
    (nextOf (exec (.regWrite 0x1002 2) { running with axes := [{ Axis.reset with enable := true }] })).map
      (fun t => t.axes.map fun a => a.enable) = some [false] := by decide

/-- V5-20: OLD_COUNT is sign-extended. -/
theorem test_regRead_signed :
    (nextOf (exec (.regRead 0x1011) { running with axes := [{ Axis.reset with oldCount := 0x80000010 }] })).map
      (fun t => t.dataOut) = some (BitVec.ofInt 128 (-2147483632)) := by decide

/-- V5-14b: axis 2 does not exist. -/
theorem test_regRead_unmapped :
    (nextOf (exec (.regRead 0x1040) { running with dataOut := 7 })).map (fun t => (t.err, t.dataOut)) = some (4, 0) := by
  decide

/-- The first instruction after reset: the table's word runs as the host's next command, and V5-13b's does not. -/
theorem test_step_first :
    (nextOf (step (State.reset.withFetchWord 32 0x01000000))).map (fun t => (t.coreMode, t.host.cmdDone)) =
      some (.run, true) ∧
    (nextOf (step (State.reset.withFetchWord 32 0x02010000))).map (fun t => (t.coreMode, t.err)) =
      some (.config, 2) := by decide

/-! ## Witnesses of the statements' hypotheses -/

/-- The active link's state meets the invariant. -/
theorem witness_inv_active : activeNext.Inv where
  params := by decide
  sizes := by unfold State.sized; decide
  statusActive := by decide
  freshStatus := by decide
  inputs := by decide
  frequencies := by unfold Axis.freqBounded; decide
  tags := by unfold Axis.tagsLegal; decide
  tick := by unfold State.tickCached; decide
  scales := by unfold Axis.scaleCached; decide
  errBits := by decide
  tx := by decide
  rx := by decide
  linkIdle := by decide
  heldInReset := by decide

/-- The stopped link's state meets the invariant. -/
theorem witness_inv_stopped : stopped.Inv where
  params := by decide
  sizes := by unfold State.sized; decide
  statusActive := by decide
  freshStatus := by decide
  inputs := by decide
  frequencies := by unfold Axis.freqBounded; decide
  tags := by unfold Axis.tagsLegal; decide
  tick := by unfold State.tickCached; decide
  scales := by unfold Axis.scaleCached; decide
  errBits := by decide
  tx := by decide
  rx := by decide
  linkIdle := by decide
  heldInReset := by decide

/-- A running core whose link is not enabled meets the invariant. -/
theorem witness_inv_running : running.Inv where
  params := by decide
  sizes := by unfold State.sized; decide
  statusActive := by decide
  freshStatus := by decide
  inputs := by decide
  frequencies := by unfold Axis.freqBounded; decide
  tags := by unfold Axis.tagsLegal; decide
  tick := by unfold State.tickCached; decide
  scales := by unfold Axis.scaleCached; decide
  errBits := by decide
  tx := by decide
  rx := by decide
  linkIdle := by decide
  heldInReset := by decide

/-- A core held in reset meets the invariant. -/
theorem witness_inv_held : (enterReset active).Inv where
  params := by decide
  sizes := by unfold State.sized; decide
  statusActive := by decide
  freshStatus := by decide
  inputs := by decide
  frequencies := by unfold Axis.freqBounded; decide
  tags := by unfold Axis.tagsLegal; decide
  tick := by unfold State.tickCached; decide
  scales := by unfold Axis.scaleCached; decide
  errBits := by decide
  tx := by decide
  rx := by decide
  linkIdle := by decide
  heldInReset := fun _ => rfl

/-! Each witness below is named after its statement, and gives values that meet its hypotheses, one for each clause. -/

/-- Every kind of illegal word, and the legal word with the highest opcode and address. -/
theorem witness_IllegalWordsRaiseIllegalCmdOnly :
    ∀ w ∈ [(0x07000000, true), (0xFF000000, true), (0x00010000, true), (0x04000001, true), (0x0600FFFF, false)],
      let s := withEvent running (.command ⟨BitVec.ofNat 32 w.1, 0⟩)
      s.host.rstN = true ∧ s.host.events = [.command ⟨BitVec.ofNat 32 w.1, 0⟩] ∧
        (0x07 ≤ w.1 / 2 ^ 24 ∨ w.1 / 2 ^ 16 % 2 ^ 8 ≠ 0 ∨
          (w.1 / 2 ^ 24 ≠ 0x05 ∧ w.1 / 2 ^ 24 ≠ 0x06 ∧ w.1 % 2 ^ 16 ≠ 0) ↔ w.2 = true) := by decide

/-- The rows of the table, and a word of each. -/
theorem witness_OpcodeRowsAreTheDecodedWords :
    ∀ x ∈ opcodeRows.zip [0x00000000, 0x01000000, 0x02000000, 0x03000000, 0x04000000, 0x0500FFFF, 0x06000000],
      x.1.covers x.2 = true := by decide

theorem witness_StepRunsTheDecodedOperation :
    let s := withEvent running (.command ⟨0x02000000, 1000000⟩)
    s.host.rstN = true ∧ s.host.events = [.command ⟨0x02000000, 1000000⟩] ∧
      decode 0x02000000 1000000 = .instr (.cmdgen 1000000) := by decide

/-- The first and the last address of the windows and of the axis banks. -/
theorem witness_RegisterAddressesAreOneToOne :
    Params.example95.wellFormed = true ∧
      ∀ x ∈ [(Reg.global .coreMode, 0x0000), (.global .rxFresh, 0x000E), (.setpoint 0, 0x0100), (.pv 0, 0x0200),
          (.dout 7, 0x0307), (.din 7, 0x0407), (.dinNot 7, 0x0507), (.axis 0 .mode, 0x1000),
          (.axis 1 .oldCount, 0x1031)],
        regAt Params.example95 x.2 = some x.1 := by decide

/-- A mapped and an unmapped address at each boundary. -/
theorem witness_UnmappedAddressesRaiseBadAddr :
    running.cfg.wellFormed = true ∧ mappedAddress running.cfg 0x000E ∧ ¬ mappedAddress running.cfg 0x000F ∧
      mappedAddress running.cfg 0x0507 ∧ ¬ mappedAddress running.cfg 0x0508 ∧
      mappedAddress running.cfg 0x1031 ∧ ¬ mappedAddress running.cfg 0x1032 := by
  unfold mappedAddress
  decide

/-- Both axes. -/
theorem witness_RegReadOfAnAxisBank :
    running.cfg.wellFormed = true ∧ ∀ j < running.cfg.J, running.axes[j]? = some Axis.reset := by decide

/-- The last channel of each kind. -/
theorem witness_RegReadOfGlobalsAndChannels :
    running.cfg.wellFormed = true ∧ 0 < running.cfg.N ∧ running.setpoint[0]? = some 0 ∧ 0 < running.cfg.M ∧
      running.pv[0]? = some 0 ∧ 7 < running.cfg.K ∧ running.dout[7]? = some false ∧ running.din[7]? = some false ∧
      running.dinNot[7]? = some true := by decide

/-- An RW register in RUN mode and an RWC register in CONFIG mode. -/
theorem witness_RegWriteStoresTheTruncatedOperand :
    (running.cfg.wellFormed = true ∧ running.sized ∧ (Reg.axis 1 .scale).mapped running.cfg = true ∧
      regAccess (.axis 1 .scale) = .rw) ∧
    (State.reset.cfg.wellFormed = true ∧ State.reset.sized ∧ (Reg.axis 1 .mode).mapped State.reset.cfg = true ∧
      regAccess (.axis 1 .mode) = .rwc ∧ State.reset.coreMode = .config) := by
  unfold State.sized
  decide

/-- A register of each access type; RWC in both modes. -/
theorem witness_AccessTypesDecideWrites :
    (∀ x ∈ [(Reg.global .dt, Access.ro), (.axis 1 .fbType, .rwc), (.global .err, .w1c), (.dout 7, .rw)],
      x.1.mapped Params.example95 = true ∧ regAccess x.1 = x.2) ∧
    (running.cfg.wellFormed = true ∧ running.coreMode = .run) ∧
    (State.reset.cfg.wellFormed = true ∧ State.reset.coreMode ≠ .run) := by decide

/-- RUN mode and CONFIG mode. -/
theorem witness_RegWriteOfAxisRegisters :
    (running.cfg.wellFormed = true ∧ 1 < running.cfg.J ∧ running.axes[1]? = some Axis.reset ∧ running.coreMode = .run) ∧
    (State.reset.cfg.wellFormed = true ∧ 1 < State.reset.cfg.J ∧ State.reset.axes[1]? = some Axis.reset ∧
      State.reset.coreMode = .config) := by decide

/-- An operation that raises an error, and one that raises none. -/
theorem witness_EachOperationRaisesOnlyItsErrors :
    (writesTo 0x0001 (.regWrite 0x0008 1) = false ∧
      nextOf (exec (.regWrite 0x0008 1) running) = some { running with err := 0x8 }) ∧
    (writesTo 0x0001 .linkRead = false ∧ nextOf (exec .linkRead running) = some running) := by decide

/-- CONFIG mode; RUN mode with the period 0 and the most negative one. -/
theorem witness_RefusedOperationsChangeOnlyErr :
    State.reset.coreMode = .config ∧ running.coreMode = .run ∧ (0 : Word32).toInt ≤ 0 ∧
      (0x80000000 : Word32).toInt ≤ 0 := by decide

/-- An INIT that leaves CONFIG mode, and a falling RST_N that leaves RUN mode. -/
theorem witness_ModesChangeOnlyByInitAndReset :
    (State.reset.coreMode = .config ∧
      (nextOf (step (withEvent State.reset (.command ⟨0x01000000, 0⟩)))).map (·.coreMode) = some .run) ∧
    (running.coreMode = .run ∧ ∀ e ∈ [HostEvent.rstLow, .commandCut ⟨0x03000000, 0⟩],
      (nextOf (step (withEvent running e))).map (·.coreMode) = some .config) := by decide

/-- The shortest and the longest period, one that is cached, and both MODE tags. -/
theorem witness_CmdgenStepsEveryAxis :
    (running.coreMode = .run ∧ (1 : Word32).toInt = 1 ∧ (0x7FFFFFFF : Word32).toInt = 2 ^ 31 - 1 ∧
      (1 : Word32) ≠ running.oldPeriod ∧ ∀ a ∈ running.axes, a.mode.toNat ≤ 1) ∧
    (let s : State := { active with axes := [{ Axis.reset with mode := 1 }, Axis.reset] }
     s.coreMode = .run ∧ 0 < (1000000 : Word32).toInt ∧ (1000000 : Word32) = s.oldPeriod ∧
      ∀ a ∈ s.axes, a.mode.toNat ≤ 1) := by decide

theorem witness_TickConstantsArePositive :
    (0 < (1 : Int) ∧ (1 : Int) < 2 ^ 31) ∧ 0 < (2 ^ 31 - 1 : Int) ∧ (2 ^ 31 - 1 : Int) < 2 ^ 31 := by decide

theorem witness_ControlLawsGiveTheVelocity : Axis.reset.mode = 0 ∧ ({ Axis.reset with mode := 1 } : Axis).mode = 1 := by
  decide

/-- The edges of the band, and the errors next to them. -/
theorem witness_DeadbandZeroesTheBand :
    (0 ≤ fxOne ∧ fxOne < 2 ^ 127) ∧
      ∀ e ∈ [-fxOne - 1, -fxOne, fxOne, fxOne + 1], -2 ^ 127 ≤ e ∧ e < 2 ^ 127 := by decide

/-- An enabled axis at the hardware ceiling. -/
theorem witness_AxisStepKeepsTheHardwareCeiling :
    let a : Axis := { Axis.reset with enable := true, freqCmd := fxWord (mfHw Params.example95) }
    Params.example95.wellFormed = true ∧ 0 ≤ tickSeconds 1 ∧ 0 ≤ fxDiv fxOne (tickSeconds 1) ∧ a.enable = true ∧
      a.freqBounded Params.example95 ∧ (velocityCeiling (mfHw Params.example95) a).2 = fxVal a.freqCmd := by
  unfold Axis.freqBounded
  decide

theorem witness_CmdgenLeavesLegalTunables :
    running.Inv ∧ running.coreMode = .run ∧ 0 < (1000000 : Word32).toInt ∧
      (nextOf (exec (.cmdgen 1000000) running)).isSome = true :=
  ⟨witness_inv_running, by decide⟩

/-- Two cores that differ in the other axis. -/
theorem witness_AxesAreIndependent :
    let s := running
    let s' : State := { running with axes := [Axis.reset, { Axis.reset with enable := true, pgain := fxWord fxOne }] }
    s ≠ s' ∧ s.coreMode = s'.coreMode ∧ s.cfg.baseFreqHz = s'.cfg.baseFreqHz ∧ s.oldPeriod = s'.oldPeriod ∧
      s.dt = s'.dt ∧ s.recipDt = s'.recipDt ∧ s.axes[0]? = s'.axes[0]? ∧
      (nextOf (exec (.cmdgen 1) s)).isSome = true ∧ (nextOf (exec (.cmdgen 1) s')).isSome = true := by decide

/-- A core that attempts and one that does not. -/
theorem witness_LinkWriteCompletes :
    active.coreMode = .run ∧ attempts active = true ∧ stopped.coreMode = .run ∧ attempts stopped = false := by decide

/-- LINK_WRITE answers a next state from each of the three states of the handshake's table, all in the invariant. -/
theorem witness_HandshakeFollowsItsTable :
    (running.Inv ∧ running.linkEnable = false ∧
      (nextOf (exec .linkWrite running)).isSome = true) ∧
    (stopped.Inv ∧ stopped.coreMode = .run ∧ stopped.linkEnable = true ∧ stopped.linkStatus = false ∧
      ¬ (stopped.linkReset = true ∧ stopped.prevReset = false) ∧
      (nextOf (exec .linkWrite stopped)).isSome = true) ∧
    (activeNext.Inv ∧ activeNext.coreMode = .run ∧ activeNext.linkEnable = true ∧
      activeNext.linkStatus = true ∧ (nextOf (exec .linkWrite activeNext)).isSome = true) :=
  ⟨⟨witness_inv_running, by decide⟩, ⟨witness_inv_stopped, by decide⟩, ⟨witness_inv_active, by decide⟩⟩

theorem witness_TxbufHoldsTheOutboundPacket :
    activeNext.Inv ∧ activeNext.coreMode = .run ∧ (nextOf (exec .linkWrite activeNext)).isSome = true :=
  ⟨witness_inv_active, by decide⟩

/-- The two ends of the range, where the two cases meet. -/
theorem witness_FrequencyWordIsTheRatio :
    let p := Params.example95
    p.wellFormed = true ∧ ∀ f ∈ [-mfHw p, mfHw p - 1, mfHw p],
      -mfHw p ≤ (fxWord f).toInt ∧ (fxWord f).toInt ≤ mfHw p := by decide

/-- An ABORT, and answers with the tags TAG_DATA, TAG_ESTOP and another, each L = 18 bytes. -/
theorem witness_AnswersAreClassified :
    active.coreMode = .run ∧ active.linkEnable = true ∧ active.linkStatus = true ∧
      4 + (List.replicate 14 (0 : Byte)).length = exchangeLen active.cfg ∧
      ∀ a ∈ [RemoteAnswer.abort, dataAnswer, estopAnswer, answer 0 0 0 0],
        (nextOf (exec .linkWrite (withAnswer active a))).map (fun t => (t.linkStatus, t.err)) =
          some (if a = dataAnswer then (true, 0) else (false, if a = .abort then 0x200 else
            if a = estopAnswer then 0x80 else 0x100)) := by decide

/-- LINK_STATUS 1 after it, LINK_ENABLE 0 before it, and an exchange that ends with LINK_STATUS 0. -/
theorem witness_StatusMeansDataThisTick :
    (active.coreMode = .run ∧ (nextOf (exec .linkWrite (withAnswer active dataAnswer))).map (·.linkStatus) = some true) ∧
    (running.coreMode = .run ∧ running.linkEnable = false ∧ (nextOf (exec .linkWrite running)).isSome = true) ∧
    (nextOf (exec .linkWrite (withAnswer active .abort))).map (fun t => (t.link.exchanges, t.linkStatus)) =
      some (1, false) := by decide

/-- One operation that may write 0 to LINK_RESET; and a sequence with a pulse of LINK_RESET between two LINK_WRITEs. -/
theorem witness_NoExchangeWithoutAResetEdge :
    (stopped.linkStatus = false ∧ ¬ (stopped.linkReset = true ∧ stopped.prevReset = false) ∧
      (0 : FxWord).getLsbD 0 = false ∧ ∀ i ∈ [Instr.regWrite 0x0003 0, .linkWrite], (nextOf (exec i stopped)).isSome) ∧
    (let lowered : State := { stopped with linkReset := false, prevReset := false }
     lowered.linkStatus = false ∧
       (nextOf (execAll [.linkWrite, .regWrite 0x0003 1, .regWrite 0x0003 0, .linkWrite] lowered)).isSome ∧
       ∀ before ∈ [[], [Instr.linkWrite, .regWrite 0x0003 1, .regWrite 0x0003 0]],
         (nextOf (execAll before lowered)).map (fun u => (u.linkReset, u.prevReset)) = some (false, false)) := by decide

theorem witness_ResetEdgeRearmsTheLink :
    stopped.coreMode = .run ∧ stopped.linkEnable = true ∧ stopped.linkStatus = false ∧ stopped.cfg.wellFormed = true := by
  decide

/-- Both transports. -/
theorem witness_TheFrameCarriesTxbuf :
    ∀ tr ∈ [Transport.byteSerial, .wordParallel],
      let s : State := { withAnswer active dataAnswer with cfg := { Params.example95 with transport := tr } }
      s.coreMode = .run ∧ s.linkEnable = true ∧ s.linkStatus = true ∧ (nextOf (exec .linkWrite s)).isSome = true := by
  decide

/-- A fresh packet, on an Absolute and an Incremental axis. -/
theorem witness_LinkReadDecodesTheFreshPacket :
    let s : State := { active with rxFresh := true, axes := [Axis.reset, { Axis.reset with fbType := 1 }] }
    s.coreMode = .run ∧ s.rxFresh = true ∧ ∀ a ∈ s.axes, a.fbType.toNat ≤ 1 := by decide

/-- A stale packet, a fresh one, and a LINK_WRITE that fails. -/
theorem witness_OneDecodePerFreshPacket :
    (active.coreMode = .run ∧ active.rxFresh = false) ∧
    (nextOf (exec .linkRead { active with rxFresh := true })).isSome = true ∧
    (nextOf (exec .linkWrite (withAnswer active estopAnswer))).map (·.linkStatus) = some false := by decide

/-- The greatest and the least displacement, from the greatest raw value on. -/
theorem witness_AccumulatorIsRolloverSafe :
    let ds : List Int := [2 ^ 31 - 1, -2 ^ 31]
    let raws : List Word32 := [0xFFFFFFFE, 0x7FFFFFFE]
    let a : Axis := { Axis.reset with oldCount := 0x7FFFFFFF }
    (∀ d ∈ ds, -2 ^ 31 ≤ d ∧ d < 2 ^ 31) ∧ raws.length = ds.length ∧
      ∀ i < ds.length,
        raws.getD i 0 = (if i = 0 then a.oldCount else raws.getD (i - 1) 0) + BitVec.ofInt 32 (ds.getD i 0) := by
  decide

theorem witness_PacketFieldsAreLittleEndian : Memory.wf [(3, 1), (4, 0xFF)] = true := by decide

/-- An operation that leaves RX_FRESH 0, and one that sets it. -/
theorem witness_StaleRxbufIsUnobservable :
    active.rxFresh = false ∧ nextOf (exec .nop active) = some active ∧
      (nextOf (exec .linkWrite (withAnswer active dataAnswer))).map (·.rxFresh) = some true := by decide

/-- A divisor of each sign, a quotient that does not saturate, and the ends of the FX range. -/
theorem witness_DivisionTruncatesTowardZero :
    (-1 : Int) ≠ 0 ∧ (3 : Int) ≠ 0 ∧ (tdiv ((2 ^ 127 - 1) * 2 ^ 64) (2 ^ 64)).natAbs < 2 ^ 127 ∧
      ∀ a ∈ [(-2 ^ 127 : Int), 2 ^ 127 - 1], -2 ^ 127 ≤ a ∧ a < 2 ^ 127 := by decide

/-- A product that truncates to 0, and one that is just short of saturating. -/
theorem witness_MultiplicationTruncatesAndSaturates :
    ((1 : Int) * 1).natAbs < 2 ^ 64 ∧ ((2 ^ 127 - 1 : Int) * 2 ^ 64).natAbs < 2 ^ 191 ∧
      (-2 ^ 127 ≤ (2 ^ 127 - 1 : Int) ∧ (2 ^ 127 - 1 : Int) < 2 ^ 127) := by decide

/-- The ends of the FX range, where the magnitude saturates and where it does not. -/
theorem witness_AdditionFamilySaturates :
    ∀ a ∈ [(-2 ^ 127 : Int), -2 ^ 127 + 1, 2 ^ 127 - 1], -2 ^ 127 ≤ a ∧ a < 2 ^ 127 := by decide

/-- An RST_N that falls between two operations or cuts one, a command and a rise in reset, and two commands in reset. -/
theorem witness_ResetOverridesEverything :
    (∀ e ∈ [HostEvent.rstLow, .commandCut ⟨0x03000000, 0⟩], (withEvent active e).host.events = [e]) ∧
    (∀ e ∈ [HostEvent.command ⟨0x01000000, 0⟩, .rstHigh],
      (withEvent (enterReset active) e).host.rstN = false ∧ (withEvent (enterReset active) e).host.events = [e]) ∧
    (let cs : List Command := [⟨0x01000000, 0⟩, ⟨0x07000000, 0⟩]
     let s : State := { active with host := { active.host with
       events := .rstLow :: (cs.map HostEvent.command ++ [.rstHigh]) } }
     s.host.events = .rstLow :: (cs.map HostEvent.command ++ .rstHigh :: [])) := by decide

theorem witness_ScaleChangeIsDetected : Axis.reset.oldScale ≠ 0 := by decide

/-- Parameters at the ends of their ranges. -/
theorem witness_InvariantHoldsAtReset :
    Params.example95.wellFormed = true ∧
      ({ Params.example95 with J := 128, N := 256, M := 256, K := 256, baseFreqHz := 2 ^ 32 - 1 } : Params).wellFormed =
        true ∧
      ({ Params.example95 with J := 1, N := 0, M := 0, K := 0, baseFreqHz := 1, transport := .wordParallel } :
        Params).wellFormed = true := by decide

/-- A step in RUN mode and one of a core held in reset. -/
theorem witness_EveryStepKeepsTheInvariant :
    (activeNext.Inv ∧ (nextOf (step activeNext)).map (fun t => (t.linkStatus, t.rxFresh)) = some (true, true)) ∧
    ((enterReset active).Inv ∧ nextOf (step (enterReset active)) = some (enterReset active)) :=
  ⟨⟨witness_inv_active, by decide⟩, witness_inv_held, by decide⟩

/-- An enabled axis whose frequency is at the ceiling of the tick, here the hardware's. -/
theorem witness_EnabledAxisIsSlewLimited :
    let a : Axis := { Axis.reset with enable := true, freqCmd := fxWord (mfHw Params.example95) }
    Params.example95.wellFormed = true ∧ 0 ≤ tickSeconds 1 ∧ 0 ≤ fxDiv fxOne (tickSeconds 1) ∧ a.enable = true ∧
      -(velocityCeiling (mfHw Params.example95) a).2 ≤ fxVal a.freqCmd ∧
      fxVal a.freqCmd ≤ (velocityCeiling (mfHw Params.example95) a).2 := by decide

theorem witness_FrequencyIsClampedSlewedAndGated :
    0 ≤ mfHw Params.example95 ∧ 0 ≤ tickSeconds 1 ∧ 0 ≤ fxDiv fxOne (tickSeconds 1) := by decide

theorem witness_BitfieldsHoldOneBitPerItem : 1 < ((List.replicate 9 true).length + 7) / 8 ∧ 7 < 8 := by decide

theorem witness_ResetGivesTheTable :
    (withEvent active .rstLow).host.events = [.rstLow] ∧
      (withEvent active (.commandCut ⟨0x03000000, 0⟩)).host.events = [.commandCut ⟨0x03000000, 0⟩] := by decide

theorem witness_NoStepStopsTheMachine : activeNext.Inv ∧ (enterReset active).Inv :=
  ⟨witness_inv_active, witness_inv_held⟩

theorem witness_EveryRunGoesOnForever : Params.example95.wellFormed = true := test_wf_example

theorem witness_PseudoInstructionsExpand :
    running.cfg.wellFormed = true ∧ 1 < running.cfg.J ∧ running.axes[1]? = some Axis.reset := by decide

/-- The last channel of each kind exists. -/
theorem witness_RegWriteOfGlobalsAndChannels :
    running.cfg.wellFormed = true ∧ 0 < running.cfg.N ∧ 0 < running.cfg.M ∧ 7 < running.cfg.K := by decide

end Sys2Proof.Tests
end

section
/-! PROOFS of the family 10_state.md. First the register map: the address of a register that exists names that register, so
REG_READ and REG_WRITE of it are `readReg` and `writeMapped`; then the ERR bits, and the state that a reset gives. -/

namespace Sys2Proof.Machine

/-! ## The register map -/

/-- The upper bounds of 00_scope.md R7 that keep the windows of the register map apart. -/
theorem wellFormed_bounds {p : Params} (h : p.wellFormed = true) :
    p.J ≤ 128 ∧ p.N ≤ 256 ∧ p.M ≤ 256 ∧ p.K ≤ 256 := by
  simp only [Params.wellFormed, Params.axesInRange, Params.channelsInRange, Bool.and_eq_true, decide_eq_true_eq] at h
  omega

theorem globalAddress_lt (g : GlobalReg) : globalAddress g < 0x0100 := by cases g <;> decide

@[simp] theorem globalAt_globalAddress (g : GlobalReg) : globalAt (globalAddress g) = some g := by cases g <;> rfl

theorem axisOffset_lt (r : AxisReg) : axisOffset r < 0x20 := by cases r <;> decide

@[simp] theorem axisRegAt_axisOffset (r : AxisReg) : axisRegAt (axisOffset r) = some r := by cases r <;> rfl

theorem channelAt_add_sub {count i base : Nat} {mk : Nat → Reg} (h : i < count) :
    channelAt count (base + i - base) mk = some (mk i) := by
  simp [channelAt, h]

/-- The Nat that `regAt` reads from an address of the map. -/
theorem toNat_regAddr {n : Nat} (h : n < 2 ^ 16) : (BitVec.ofNat 16 n).toNat = n := Nat.mod_eq_of_lt h

theorem regAt_regAddress {p : Params} {r : Reg} (hp : p.wellFormed = true) (hr : r.mapped p = true) :
    regAt p (regAddress r) = some r := by
  obtain ⟨hJ, hN, hM, hK⟩ := wellFormed_bounds hp
  cases r with
  | global g =>
    have hg := globalAddress_lt g
    simp (disch := omega) only [regAt, regAddress, toNat_regAddr, if_pos, globalAt_globalAddress, Option.map_some]
  | setpoint i | pv i | dout i | din i | dinNot i =>
    simp only [Reg.mapped, decide_eq_true_eq] at hr
    simp (disch := omega) only [regAt, regAddress, toNat_regAddr, if_pos, if_neg, channelAt_add_sub]
  | axis j o =>
    simp only [Reg.mapped, decide_eq_true_eq] at hr
    have ho := axisOffset_lt o
    have hbank : (0x1000 + 0x20 * j + axisOffset o - 0x1000) / 0x20 = j := by omega
    have hoff : (0x1000 + 0x20 * j + axisOffset o - 0x1000) % 0x20 = axisOffset o := by omega
    simp (disch := omega) only [regAt, regAddress, toNat_regAddr, if_pos, if_neg, hbank, hoff, axisRegAt_axisOffset,
      Option.map_some]

theorem exec_regRead_regAddress {s : State} {r : Reg} (hp : s.cfg.wellFormed = true) (hr : r.mapped s.cfg = true) :
    exec (.regRead (regAddress r)) s = .next { s with dataOut := readReg s r } := by
  simp [exec, execRegRead, regAt_regAddress hp hr]

theorem exec_regWrite_regAddress {s : State} {r : Reg} (hp : s.cfg.wellFormed = true) (hr : r.mapped s.cfg = true)
    (d : FxWord) : exec (.regWrite (regAddress r) d) s = .next (writeMapped r d s) := by
  simp [exec, execRegWrite, regAt_regAddress hp hr]

/-! ## The ERR bits -/

theorem raise_roWrite (s : State) : raise .roWrite s = { s with err := s.err ||| 0x8 } := rfl

theorem raise_cfgLocked (s : State) : raise .cfgLocked s = { s with err := s.err ||| 0x10 } := rfl

theorem getLsbD_errMask (b : Nat) : errMask.getLsbD b = decide (b < 10) := by
  show (BitVec.ofNat 32 (2 ^ 10 - 1)).getLsbD b = _
  rw [BitVec.getLsbD_ofNat, Nat.testBit_two_pow_sub_one]
  grind

theorem getLsbD_errClear (d : FxWord) (err : Word32) (b : Nat) :
    (errClear d err).getLsbD b = (err.getLsbD b && !d.getLsbD b && decide (b < 10)) := by
  simp only [errClear, BitVec.getLsbD_and, BitVec.getLsbD_not, BitVec.getLsbD_setWidth, getLsbD_errMask]
  by_cases hb : b < 10
  · simp [hb, show b < 32 by omega]
  · simp [hb]

/-- Settles O11, by the four access types of a register that exists. -/
theorem accessTypesDecideWrites : Obligations.AccessTypesDecideWrites := by
  unfold Obligations.AccessTypesDecideWrites
  intro s r d hp hr
  refine ⟨⟨_, exec_regRead_regAddress hp hr⟩, ?_⟩
  rw [exec_regWrite_regAddress hp hr]
  rcases writeMapped_cases r d s with ⟨ha, hw⟩ | ⟨ha, hm, hw⟩ | ⟨ha, hm, hw⟩ | ⟨ha, hw⟩ | ⟨ha, hw⟩
  · simp only [ha, hw, raise_roWrite]
  · simp only [ha, hw, hm, if_true, raise_cfgLocked]
  · simp [ha, hw, hm]
  · simp only [ha, hw]
    exact ⟨errClear d s.err, rfl, getLsbD_errClear d s.err⟩
  · simp only [ha, hw]

/-! ## `enterReset`: the table of 10_state.md R62 -/

@[simp] theorem enterReset_cfg (s : State) : (enterReset s).cfg = s.cfg := rfl
@[simp] theorem enterReset_host (s : State) :
    (enterReset s).host = { rstN := false, cmdDone := false, events := s.host.events } := rfl
@[simp] theorem enterReset_link (s : State) :
    (enterReset s).link = { LinkPort.reset with
      answers := s.link.answers, exchanges := s.link.exchanges, frames := s.link.frames } := rfl
@[simp] theorem enterReset_coreMode (s : State) : (enterReset s).coreMode = .config := rfl
@[simp] theorem enterReset_err (s : State) : (enterReset s).err = 0 := rfl
@[simp] theorem enterReset_linkEnable (s : State) : (enterReset s).linkEnable = false := rfl
@[simp] theorem enterReset_linkReset (s : State) : (enterReset s).linkReset = false := rfl
@[simp] theorem enterReset_linkStatus (s : State) : (enterReset s).linkStatus = false := rfl
@[simp] theorem enterReset_hsState (s : State) : (enterReset s).hsState = .disabled := rfl
@[simp] theorem enterReset_hwResetIn (s : State) : (enterReset s).hwResetIn = false := rfl
@[simp] theorem enterReset_hwResetOut (s : State) : (enterReset s).hwResetOut = false := rfl
@[simp] theorem enterReset_lastRxTag (s : State) : (enterReset s).lastRxTag = 0 := rfl
@[simp] theorem enterReset_attemptCount (s : State) : (enterReset s).attemptCount = 0 := rfl
@[simp] theorem enterReset_dt (s : State) : (enterReset s).dt = 0 := rfl
@[simp] theorem enterReset_recipDt (s : State) : (enterReset s).recipDt = 0 := rfl
@[simp] theorem enterReset_oldPeriod (s : State) : (enterReset s).oldPeriod = 0 := rfl
@[simp] theorem enterReset_prevReset (s : State) : (enterReset s).prevReset = false := rfl
@[simp] theorem enterReset_rxFresh (s : State) : (enterReset s).rxFresh = false := rfl
@[simp] theorem enterReset_setpoint (s : State) : (enterReset s).setpoint = List.replicate s.cfg.N 0 := rfl
@[simp] theorem enterReset_pv (s : State) : (enterReset s).pv = List.replicate s.cfg.M 0 := rfl
@[simp] theorem enterReset_dout (s : State) : (enterReset s).dout = List.replicate s.cfg.K false := rfl
@[simp] theorem enterReset_din (s : State) : (enterReset s).din = List.replicate s.cfg.K false := rfl
@[simp] theorem enterReset_dinNot (s : State) : (enterReset s).dinNot = List.replicate s.cfg.K true := rfl
@[simp] theorem enterReset_txbuf (s : State) : (enterReset s).txbuf = [] := rfl
@[simp] theorem enterReset_rxbuf (s : State) : (enterReset s).rxbuf = [] := rfl
@[simp] theorem enterReset_dataOut (s : State) : (enterReset s).dataOut = 0 := rfl
@[simp] theorem enterReset_axes (s : State) : (enterReset s).axes = List.replicate s.cfg.J Axis.reset := rfl

/-- A fall of RST_N, between two operations or in the middle of one, is the same step (70_reset_and_hazards.md R161). -/
theorem step_of_reset_falls {s : State} {e : HostEvent} {es : List HostEvent}
    (he : e = .rstLow ∨ ∃ c, e = .commandCut c) (hs : s.host.events = e :: es) :
    step s = .next (enterReset (takeEvent s)) := by
  unfold step
  rw [hs]
  rcases he with rfl | ⟨c, rfl⟩ <;> rfl

/-- Settles O53: a fall of RST_N steps to `enterReset`, whose fields are those of the table. -/
theorem resetGivesTheTable : Obligations.ResetGivesTheTable := by
  unfold Obligations.ResetGivesTheTable
  intro s e es he hs
  refine ⟨enterReset (takeEvent s), step_of_reset_falls he hs, ?_⟩
  simp [Axis.reset]

end Sys2Proof.Machine
end

section
/-! PROOFS of the family 20_memory.md. The mapped addresses of R66 are the addresses of the registers that exist, and only
such an address reads as a register; so REG_READ and REG_WRITE of any other raise BAD_ADDR. -/

namespace Sys2Proof.Machine

/-! ## The two tables of the register map, read backwards -/

theorem globalAddress_le (g : GlobalReg) : globalAddress g ≤ 0x000E := by cases g <;> decide

theorem axisOffset_le (o : AxisReg) : axisOffset o ≤ 0x11 := by cases o <;> decide

theorem globalAddress_of_globalAt {n : Nat} {g : GlobalReg} (h : globalAt n = some g) : globalAddress g = n := by
  unfold globalAt at h
  split at h <;> cases h <;> rfl

theorem axisOffset_of_axisRegAt {n : Nat} {o : AxisReg} (h : axisRegAt n = some o) : axisOffset o = n := by
  unfold axisRegAt at h
  split at h <;> cases h <;> rfl

theorem exists_globalAddress_eq {n : Nat} (h : n ≤ 0x000E) : ∃ g, globalAddress g = n := by
  have table : ∀ n ≤ 0x000E, (globalAt n).isSome = true := by decide
  obtain ⟨g, hg⟩ := Option.isSome_iff_exists.mp (table n h)
  exact ⟨g, globalAddress_of_globalAt hg⟩

theorem exists_axisOffset_eq {n : Nat} (h : n ≤ 0x11) : ∃ o, axisOffset o = n := by
  have table : ∀ n ≤ 0x11, (axisRegAt n).isSome = true := by decide
  obtain ⟨o, ho⟩ := Option.isSome_iff_exists.mp (table n h)
  exact ⟨o, axisOffset_of_axisRegAt ho⟩

theorem channelAt_eq_some {count i : Nat} {mk : Nat → Reg} {r : Reg} (h : channelAt count i mk = some r) :
    i < count ∧ mk i = r := by
  simpa [channelAt] using h

/-! ## Unmapped addresses -/

theorem regAddress_eq_of_toNat {r : Reg} {a : RegAddr} {n : Nat} (hr : regAddress r = BitVec.ofNat 16 n)
    (ha : n = a.toNat) : regAddress r = a := by
  rw [hr, ha, BitVec.ofNat_toNat, BitVec.setWidth_eq]

/-- What `regAt` answers is a register that exists, at its own address: the converse of `regAt_regAddress`. -/
theorem mapped_and_regAddress_of_regAt {p : Params} {a : RegAddr} {r : Reg} (h : regAt p a = some r) :
    r.mapped p = true ∧ regAddress r = a := by
  simp only [regAt] at h
  split at h
  case isTrue =>
    obtain ⟨g, hg, rfl⟩ := Option.map_eq_some_iff.mp h
    exact ⟨rfl, regAddress_eq_of_toNat rfl (globalAddress_of_globalAt hg)⟩
  iterate 5
    split at h
    case isTrue =>
      obtain ⟨hi, rfl⟩ := channelAt_eq_some h
      exact ⟨decide_eq_true hi, regAddress_eq_of_toNat rfl (by omega)⟩
  split at h
  case isTrue => cases h
  split at h
  case isTrue hj =>
    obtain ⟨o, ho, rfl⟩ := Option.map_eq_some_iff.mp h
    have hoff := axisOffset_of_axisRegAt ho
    exact ⟨decide_eq_true hj, regAddress_eq_of_toNat rfl (by omega)⟩
  case isFalse => cases h

/-- The list of R66 is the list of the addresses of the registers that exist. -/
theorem mappedAddress_iff {p : Params} (hp : p.wellFormed = true) (a : RegAddr) :
    mappedAddress p a.toNat ↔ ∃ r : Reg, r.mapped p = true ∧ regAddress r = a := by
  constructor
  · rintro (hg | ⟨n, hn, ha⟩ | ⟨m, hm, ha⟩ | ⟨k, hk, ha | ha | ha⟩ | ⟨j, hj, o, ho, ha⟩)
    · obtain ⟨g, hg⟩ := exists_globalAddress_eq hg
      exact ⟨.global g, rfl, regAddress_eq_of_toNat rfl hg⟩
    · exact ⟨.setpoint n, decide_eq_true hn, regAddress_eq_of_toNat rfl ha.symm⟩
    · exact ⟨.pv m, decide_eq_true hm, regAddress_eq_of_toNat rfl ha.symm⟩
    · exact ⟨.dout k, decide_eq_true hk, regAddress_eq_of_toNat rfl ha.symm⟩
    · exact ⟨.din k, decide_eq_true hk, regAddress_eq_of_toNat rfl ha.symm⟩
    · exact ⟨.dinNot k, decide_eq_true hk, regAddress_eq_of_toNat rfl ha.symm⟩
    · obtain ⟨o, rfl⟩ := exists_axisOffset_eq ho
      exact ⟨.axis j o, decide_eq_true hj, regAddress_eq_of_toNat rfl ha.symm⟩
  · rintro ⟨r, hr, rfl⟩
    obtain ⟨hJ, hN, hM, hK⟩ := wellFormed_bounds hp
    cases r with
    | global g =>
      have hg := globalAddress_le g
      rw [regAddress, toNat_regAddr (by omega)]
      exact .inl hg
    | setpoint i =>
      have hi := of_decide_eq_true hr
      rw [regAddress, toNat_regAddr (by omega)]
      exact .inr (.inl ⟨i, hi, rfl⟩)
    | pv i =>
      have hi := of_decide_eq_true hr
      rw [regAddress, toNat_regAddr (by omega)]
      exact .inr (.inr (.inl ⟨i, hi, rfl⟩))
    | dout i | din i | dinNot i =>
      have hi := of_decide_eq_true hr
      rw [regAddress, toNat_regAddr (by omega)]
      exact .inr (.inr (.inr (.inl ⟨i, hi, by simp⟩)))
    | axis j o =>
      have hj := of_decide_eq_true hr
      have ho := axisOffset_le o
      rw [regAddress, toNat_regAddr (by omega)]
      exact .inr (.inr (.inr (.inr ⟨j, hj, axisOffset o, ho, rfl⟩)))

theorem regAt_eq_none_of_not_mappedAddress {p : Params} {a : RegAddr} (hp : p.wellFormed = true)
    (h : ¬ mappedAddress p a.toNat) : regAt p a = none :=
  Option.eq_none_iff_forall_ne_some.mpr fun r hr =>
    h ((mappedAddress_iff hp a).mpr ⟨r, mapped_and_regAddress_of_regAt hr⟩)

theorem raise_badAddr (s : State) : raise .badAddr s = { s with err := s.err ||| 0x4 } := rfl

theorem exec_regWrite_of_unmapped {s : State} {a : RegAddr} (h : regAt s.cfg a = none) (d : FxWord) :
    exec (.regWrite a d) s = .next { s with err := s.err ||| 0x4 } := by
  simp only [exec, execRegWrite, h, raise_badAddr]

theorem exec_regRead_of_unmapped {s : State} {a : RegAddr} (h : regAt s.cfg a = none) :
    exec (.regRead a) s = .next { s with err := s.err ||| 0x4, dataOut := 0 } := by
  simp only [exec, execRegRead, h, raise_badAddr]

/-- Settles O7: a mapped address is that of a register that exists, and at any other `regAt` finds none. -/
theorem unmappedAddressesRaiseBadAddr : Obligations.UnmappedAddressesRaiseBadAddr := by
  unfold Obligations.UnmappedAddressesRaiseBadAddr
  intro s a d hp
  constructor
  · intro h
    obtain ⟨r, hr, rfl⟩ := (mappedAddress_iff hp a).mp h
    exact ⟨r, regAt_regAddress hp hr⟩
  · intro h
    have hnone := regAt_eq_none_of_not_mappedAddress hp h
    exact ⟨exec_regWrite_of_unmapped hnone d, exec_regRead_of_unmapped hnone⟩

end Sys2Proof.Machine
end

section
/-! PROOFS of the family 30_encoding.md. The fields of a command word as parts of its number, and from them which words the
decoder calls illegal; the frequency word as a clamped quotient; and the commands that the pseudo-instructions stand for. -/

namespace Sys2Proof.Machine

/-! ## The fields of a command word -/

theorem toNat_opcField (cmd : Word32) : (opcField cmd).toNat = cmd.toNat / 2 ^ 24 := by
  have hlt := cmd.isLt
  rw [opcField, BitVec.extractLsb'_toNat, Nat.shiftRight_eq_div_pow]
  omega

theorem rsvField_eq_zero_iff (cmd : Word32) : rsvField cmd = 0 ↔ cmd.toNat / 2 ^ 16 % 2 ^ 8 = 0 := by
  rw [← BitVec.toNat_inj, rsvField, BitVec.extractLsb'_toNat, Nat.shiftRight_eq_div_pow]
  rfl

theorem addrField_eq_zero_iff (cmd : Word32) : addrField cmd = 0 ↔ cmd.toNat % 2 ^ 16 = 0 := by
  rw [← BitVec.toNat_inj, addrField, BitVec.extractLsb'_toNat, Nat.shiftRight_zero]
  rfl

/-! ## The illegal words -/

/-- The illegal command words as 30_encoding.md R85 lists them, on the number of the word. -/
def illegalNumber (n : Nat) : Prop :=
  0x07 ≤ n / 2 ^ 24 ∨ n / 2 ^ 16 % 2 ^ 8 ≠ 0 ∨ (n / 2 ^ 24 ≠ 0x05 ∧ n / 2 ^ 24 ≠ 0x06 ∧ n % 2 ^ 16 ≠ 0)

theorem noAddr_eq_illegal_iff (addr : RegAddr) (i : Instr) : (∃ why, noAddr addr i = .illegal why) ↔ addr ≠ 0 := by
  unfold noAddr
  split
  next h => exact iff_of_false (by simp) (not_not.mpr h)
  next h => exact iff_of_true ⟨_, rfl⟩ h

/-- The decoder calls a word illegal exactly when R85 does: after RSV, one case for each row of the opcode table. -/
theorem decode_eq_illegal_iff (cmd : Word32) (d : FxWord) :
    (∃ why, decode cmd d = .illegal why) ↔ illegalNumber cmd.toNat := by
  unfold decode illegalNumber
  simp only [toNat_opcField, ne_eq, rsvField_eq_zero_iff]
  split
  next hrsv => exact iff_of_true ⟨_, rfl⟩ (.inr (.inl hrsv))
  next hrsv =>
    split
    -- REG_WRITE and REG_READ, which take every address
    case h_6 | h_7 => exact iff_of_false (by simp) (by omega)
    -- the reserved opcodes
    case h_8 => exact iff_of_true ⟨_, rfl⟩ (.inl (by grind))
    -- the five operations without an address
    all_goals
      rw [noAddr_eq_illegal_iff, ne_eq, addrField_eq_zero_iff]
      omega

theorem exists_instr_of_not_illegal {x : Decoded} (h : ¬ ∃ why, x = .illegal why) : ∃ i, x = .instr i := by
  cases x with
  | instr i => exact ⟨i, rfl⟩
  | illegal why => exact absurd ⟨why, rfl⟩ h

/-! ## A presented command -/

theorem step_of_command {s : State} {c : Command} {es : List HostEvent} (hr : s.host.rstN = true)
    (hs : s.host.events = .command c :: es) : step s = performCommand c (takeEvent s) := by
  simp only [step, hs, hostEvent, takeEvent_host, hr, if_true]

theorem raise_illegalCmd (s : State) : raise .illegalCmd s = { s with err := s.err ||| 0x2 } := rfl

theorem performCommand_of_illegal {c : Command} {why : IllegalWord} (h : decode c.cmd c.dataIn = .illegal why)
    (s : State) : performCommand c s = .next (completeCommand { s with err := s.err ||| 0x2 }) := by
  simp only [performCommand, h, raise_illegalCmd]

/-- Settles O2: the decoder's illegal words are those of R85, and the port answers each with ILLEGAL_CMD alone. -/
theorem illegalWordsRaiseIllegalCmdOnly : Obligations.IllegalWordsRaiseIllegalCmdOnly := by
  unfold Obligations.IllegalWordsRaiseIllegalCmdOnly
  intro s c es hr hs
  rw [step_of_command hr hs]
  split
  next h =>
    obtain ⟨why, hwhy⟩ := (decode_eq_illegal_iff c.cmd c.dataIn).mpr h
    exact ⟨_, performCommand_of_illegal hwhy _, rfl, hr, by simp [hs]⟩
  next h => exact exists_instr_of_not_illegal (mt (decode_eq_illegal_iff c.cmd c.dataIn).mp h)

/-! ## The frequency word -/

theorem baseFreqHz_pos {p : Params} (h : p.wellFormed = true) : 0 < p.baseFreqHz := by
  simp only [Params.wellFormed, Params.baseInRange, Bool.and_eq_true, decide_eq_true_eq] at h
  omega

theorem mfHw_eq (p : Params) : mfHw p = (p.baseFreqHz : Int) * 2 ^ 63 := by
  rw [mfHw, fxOne_eq]
  omega

/-- The clamped ratio is a signed 32-bit number, so the frequency word holds it (30_encoding.md R94). -/
theorem toInt_freqWord (p : Params) (f : FxWord) :
    (freqWord p f).toInt =
      max (-2 ^ 31) (min (2 ^ 31 - 1) ((f.toInt * 2 ^ 32).tdiv ((p.baseFreqHz : Int) * 2 ^ 64))) := by
  rw [freqWord, freqRatio, tdiv_eq, fxVal, fxFrac, BitVec.toInt_ofInt]
  exact Int.bmod_eq_of_le (by omega) (by omega)

theorem le_tdiv_ratio {b x : Int} (hb : 0 < b) (hx : -(b * 2 ^ 63) ≤ x) : -2 ^ 31 ≤ (x * 2 ^ 32).tdiv (b * 2 ^ 64) :=
  Int.le_tdiv_of_mul_le (by omega) (by omega)

/-- Below the hardware ceiling the ratio stays below 2^31, so that the clamp of R94 does not act. -/
theorem tdiv_ratio_lt {b x : Int} (hb : 0 < b) (hx : x < b * 2 ^ 63) : (x * 2 ^ 32).tdiv (b * 2 ^ 64) < 2 ^ 31 := by
  rcases le_total 0 x with hpos | hneg
  · rw [Int.tdiv_eq_ediv_of_nonneg (by omega)]
    exact Int.ediv_lt_of_lt_mul (by omega) (by omega)
  · calc (x * 2 ^ 32).tdiv (b * 2 ^ 64) ≤ (0 : Int).tdiv (b * 2 ^ 64) := Int.tdiv_le_tdiv (by omega) (by omega)
      _ < 2 ^ 31 := by simp

theorem tdiv_ratio_ceiling {b : Int} (hb : 0 < b) : (b * 2 ^ 63 * 2 ^ 32).tdiv (b * 2 ^ 64) = 2 ^ 31 := by
  rw [show b * 2 ^ 63 * 2 ^ 32 = 2 ^ 31 * (b * 2 ^ 64) by ring]
  exact Int.mul_tdiv_cancel _ (by omega)

/-- Settles O35, by the value of the ratio at the hardware ceiling and its bounds below it. -/
theorem frequencyWordIsTheRatio : Obligations.FrequencyWordIsTheRatio := by
  unfold Obligations.FrequencyWordIsTheRatio
  intro p f hp
  have hb : (0 : Int) < p.baseFreqHz := by exact_mod_cast baseFreqHz_pos hp
  refine ⟨toInt_freqWord p f, fun hlo hhi => ⟨fun hne => ?_, fun heq => BitVec.eq_of_toInt_eq ?_⟩⟩
  · rw [mfHw_eq] at hlo hhi hne
    have hlt := tdiv_ratio_lt hb (lt_of_le_of_ne hhi hne)
    have hge := le_tdiv_ratio hb hlo
    rw [toInt_freqWord]
    omega
  · rw [toInt_freqWord, heq, mfHw_eq, tdiv_ratio_ceiling hb]
    decide

/-! ## The pseudo-instructions -/

/-- The operand of CLRERR covers every bit of ERR that exists (10_state.md R25). -/
theorem errClear_all (err : Word32) : errClear 0xFFFFFFFF err = 0 := by
  have hkept : ~~~((0xFFFFFFFF : FxWord).setWidth 32) = 0 := by decide
  rw [errClear, hkept]
  simp

theorem execAll_singleton {i : Instr} {s t : State} (h : exec i s = .next t) : execAll [i] s = .next t := by
  simp only [execAll, h]

theorem writeMapped_err (d : FxWord) (s : State) :
    writeMapped (.global .err) d s = { s with err := errClear d s.err } := rfl

theorem writeMapped_enable (j : Nat) (d : FxWord) (s : State) :
    writeMapped (.axis j .enable) d s =
      { s with axes := s.axes.modify j fun a => { a with enable := d.getLsbD 0 } } := rfl

theorem execAll_clrerr {s : State} (hp : s.cfg.wellFormed = true) :
    execAll (assemble .clrerr) s = .next { s with err := 0 } :=
  execAll_singleton (by rw [exec_regWrite_regAddress hp rfl, writeMapped_err, errClear_all])

theorem execAll_enableAxis {s : State} {j : Nat} {a : Axis} (hp : s.cfg.wellFormed = true) (hj : j < s.cfg.J)
    (ha : s.axes[j]? = some a) :
    execAll (assemble (.enableAxis j)) s = .next { s with axes := s.axes.set j { a with enable := true } } := by
  refine execAll_singleton ?_
  rw [exec_regWrite_regAddress hp (by simpa [Reg.mapped] using hj), writeMapped_enable,
    List.modify_eq_set_getElem?, ha]
  rfl

/-- Settles O59: the expansions are the definition of `assemble`, and CLRERR and ENABLE_AXIS are one REG_WRITE each, of a
register that exists. -/
theorem pseudoInstructionsExpand : Obligations.PseudoInstructionsExpand := by
  unfold Obligations.PseudoInstructionsExpand
  exact ⟨fun _ => rfl, rfl, fun _ => rfl, fun s j a hp hj ha => ⟨execAll_clrerr hp, execAll_enableAxis hp hj ha⟩⟩

end Sys2Proof.Machine
end

section
/-! PROOFS of the family 40_fixed_point.md. Saturation as a clamp between two numerals, and how it meets a change of
sign; then the quotient by its remainder and by its magnitude, from which the laws of each operation follow. -/

namespace Sys2Proof.Machine

/-! ## Saturation -/

/-- The saturation of R101 with FX_MIN and FX_MAX as numerals of the profile. -/
theorem fxSat_eq_clamp (x : Int) : fxSat x = max (-2 ^ 127) (min (2 ^ 127 - 1) x) := by
  unfold fxSat
  rw [fxMin_eq, fxMax_eq]
  split
  · omega
  · split <;> omega

theorem fxSat_of_bounds {x : Int} (hlo : -2 ^ 127 ≤ x) (hhi : x < 2 ^ 127) : fxSat x = x :=
  fxSat_of_inRange ⟨by rw [fxMin_eq]; omega, by rw [fxMax_eq]; omega⟩

@[simp] theorem fxSat_zero : fxSat 0 = 0 := fxSat_of_bounds (by norm_num) (by norm_num)

/-- FX_MIN has no negation in range; any other value that does not saturate has one. -/
theorem fxSat_neg {x : Int} (h : x.natAbs < 2 ^ 127) : fxSat (-x) = -fxSat x := by
  rw [fxSat_of_bounds (x := x) (by omega) (by omega), fxSat_of_bounds (by omega) (by omega)]

/-! ## Sums, differences, negations and magnitudes -/

theorem fxNeg_of_bounds {a : Int} (hlo : -2 ^ 127 ≤ a) (hhi : a < 2 ^ 127) :
    fxNeg a = if a = -2 ^ 127 then 2 ^ 127 - 1 else -a := by
  rw [fxNeg, fxSat_eq_clamp]
  split <;> omega

/-- The magnitude of a negative value is its negation, and FX_MIN saturates in both. -/
theorem fxAbs_eq_ite {a : Int} (hhi : a < 2 ^ 127) : fxAbs a = if a < 0 then fxNeg a else a := by
  rw [fxAbs, fxNeg]
  split
  · rw [Int.ofNat_natAbs_of_nonpos (by omega)]
  · rw [Int.natAbs_of_nonneg (by omega), fxSat_of_bounds (by omega) hhi]

/-- Settles O52: the four operations are `fxSat` of the exact result. -/
theorem additionFamilySaturates : Obligations.AdditionFamilySaturates := by
  unfold Obligations.AdditionFamilySaturates
  intro a b hlo hhi _ _
  refine ⟨fxSat_eq_clamp _, fxSat_eq_clamp _, fxNeg_of_bounds hlo hhi, ?_⟩
  rw [fxAbs_eq_ite hhi, fxNeg_of_bounds hlo hhi]
  split_ifs <;> omega

/-! ## The truncated quotient -/

theorem tdiv_neg_right (a b : Int) : tdiv a (-b) = -tdiv a b := by simp [tdiv_eq]

theorem tdiv_zero_left (b : Int) : tdiv 0 b = 0 := by simp [tdiv_eq]

theorem natAbs_tdiv (a b : Int) : (tdiv a b).natAbs = a.natAbs / b.natAbs := by
  rw [tdiv_eq]
  exact Int.natAbs_tdiv a b

theorem tdiv_mul_fxOne (a : Int) : tdiv (a * fxOne) fxOne = a := by
  rw [tdiv_eq]
  exact Int.mul_tdiv_cancel a (by decide)

/-- Rounding toward zero: the remainder is smaller than the divisor and has the sign of the dividend (R102). -/
theorem exists_tdiv_remainder (a : Int) {b : Int} (hb : b ≠ 0) :
    ∃ r, a = b * tdiv a b + r ∧ r.natAbs < b.natAbs ∧ (0 ≤ a → 0 ≤ r) ∧ (a ≤ 0 → r ≤ 0) := by
  refine ⟨a.tmod b, ?_, ?_, Int.tmod_nonneg b, fun ha => ?_⟩
  · rw [tdiv_eq, Int.mul_tdiv_add_tmod]
  · rw [Int.natAbs_tmod]
    exact Nat.mod_lt _ (Int.natAbs_pos.mpr hb)
  · have hneg : 0 ≤ (-a).tmod b := Int.tmod_nonneg b (by omega)
    rw [Int.neg_tmod] at hneg
    omega

/-! ## Division -/

theorem fxDiv_of_ne_zero (a : Int) {b : Int} (hb : b ≠ 0) : fxDiv a b = fxSat (tdiv (a * fxOne) b) := if_neg hb

theorem fxDiv_zero_left {b : Int} (hb : b ≠ 0) : fxDiv 0 b = 0 := by
  rw [fxDiv_of_ne_zero 0 hb, zero_mul, tdiv_zero_left, fxSat_zero]

/-- The totality case of R105. -/
theorem fxDiv_zero_right (a : Int) :
    fxDiv a 0 = if a = 0 then 0 else if 0 < a then 2 ^ 127 - 1 else -2 ^ 127 := by
  rw [fxDiv, if_pos rfl, fxMax_eq, fxMin_eq]
  norm_num

theorem fxDiv_fxOne {a : Int} (hlo : -2 ^ 127 ≤ a) (hhi : a < 2 ^ 127) : fxDiv a fxOne = a := by
  rw [fxDiv_of_ne_zero a (by decide), tdiv_mul_fxOne, fxSat_of_bounds hlo hhi]

theorem fxDiv_neg_left {a b : Int} (hb : b ≠ 0) (h : (tdiv (a * fxOne) b).natAbs < 2 ^ 127) :
    fxDiv (-a) b = -fxDiv a b := by
  rw [fxDiv_of_ne_zero _ hb, fxDiv_of_ne_zero _ hb, neg_mul, tdiv_neg_left, fxSat_neg h]

theorem fxDiv_neg_right {a b : Int} (hb : b ≠ 0) (h : (tdiv (a * fxOne) b).natAbs < 2 ^ 127) :
    fxDiv a (-b) = -fxDiv a b := by
  rw [fxDiv_of_ne_zero _ (neg_ne_zero.mpr hb), fxDiv_of_ne_zero _ hb, tdiv_neg_right, fxSat_neg h]

/-- Settles O50, by the remainder of the quotient and, for fx_div, by how its saturation meets a change of sign. -/
theorem divisionTruncatesTowardZero : Obligations.DivisionTruncatesTowardZero := by
  unfold Obligations.DivisionTruncatesTowardZero
  intro a b
  refine ⟨fun hb => ⟨rfl, exists_tdiv_remainder a hb, ?_, fxDiv_zero_left hb, fun h => ?_⟩, fxDiv_fxOne,
    fxDiv_zero_right a⟩
  · rw [fxDiv_of_ne_zero a hb]
    exact fxSat_eq_clamp _
  · exact ⟨fxDiv_neg_left hb h, fxDiv_neg_right hb h⟩

/-! ## Multiplication -/

theorem fxMul_comm (a b : Int) : fxMul a b = fxMul b a := by
  rw [fxMul, fxMul, mul_comm]

theorem fxMul_zero_right (a : Int) : fxMul a 0 = 0 := by
  rw [fxMul, mul_zero, tdiv_zero_left, fxSat_zero]

theorem fxMul_fxOne {a : Int} (hlo : -2 ^ 127 ≤ a) (hhi : a < 2 ^ 127) : fxMul a fxOne = a := by
  rw [fxMul, tdiv_mul_fxOne, fxSat_of_bounds hlo hhi]

theorem natAbs_tdiv_fxOne (x : Int) : (tdiv x fxOne).natAbs = x.natAbs / 2 ^ 64 := by
  rw [natAbs_tdiv, show fxOne.natAbs = 2 ^ 64 from by decide]

/-- A product below the last fraction bit truncates to 0. -/
theorem fxMul_eq_zero_of_lt {a b : Int} (h : (a * b).natAbs < 2 ^ 64) : fxMul a b = 0 := by
  have hquot : tdiv (a * b) fxOne = 0 := by
    rw [← Int.natAbs_eq_zero, natAbs_tdiv_fxOne]
    exact Nat.div_eq_of_lt h
  rw [fxMul, hquot, fxSat_zero]

/-- A product below 2^191 has a quotient that saturates with neither sign. -/
theorem fxMul_neg_left {a b : Int} (h : (a * b).natAbs < 2 ^ 191) : fxMul (-a) b = -fxMul a b := by
  have hquot : (tdiv (a * b) fxOne).natAbs < 2 ^ 127 := by
    rw [natAbs_tdiv_fxOne]
    exact Nat.div_lt_of_lt_mul h
  rw [fxMul, fxMul, neg_mul, tdiv_neg_left, fxSat_neg hquot]

/-- Settles O51, by the magnitude of the quotient of the exact product by 2^64. -/
theorem multiplicationTruncatesAndSaturates : Obligations.MultiplicationTruncatesAndSaturates := by
  unfold Obligations.MultiplicationTruncatesAndSaturates
  intro a b
  refine ⟨?_, fxMul_comm a b, fxMul_zero_right a, fxMul_fxOne, fxMul_eq_zero_of_lt, fxMul_neg_left⟩
  rw [fxMul, tdiv_eq]
  exact fxSat_eq_clamp _

end Sys2Proof.Machine
end

section
/-! PROOFS of the family 41_cmdgen.md. What each stage of the axis step does, said once: the three cases of the scale
change, the whole step as one record update, and the two-way clamp; then the rules R108 to R111 and R114 to R116 for the
step as a whole. -/

namespace Sys2Proof.Machine

/-! ## The scale change -/

theorem fxWord_fxOne : fxWord fxOne = 0x10000000000000000 := by decide

theorem fxVal_ne_zero {w : FxWord} (h : w ≠ 0) : fxVal w ≠ 0 := fun hval =>
  h (by rw [← fxWord_fxVal w, hval]; rfl)

theorem scaleChange_of_eq {a : Axis} (h : a.scale = a.oldScale) : scaleChange a = a := if_neg (not_not.mpr h)

/-- Only a SCALE of 0 is within the epsilon of R108; it and its reciprocal become 1.0. -/
theorem scaleChange_of_zero {a : Axis} (hne : a.scale ≠ a.oldScale) (hzero : a.scale = 0) :
    scaleChange a =
      { a with scale := fxWord fxOne, oldScale := fxWord fxOne, scaleRecip := fxWord fxOne } := by
  have hguard : scaleGuard (fxVal a.scale) = fxOne := by rw [scaleGuard_eq, hzero, fxVal_zero, if_pos rfl]
  have hrecip : fxDiv fxOne (fxVal (fxWord fxOne)) = fxOne := by decide
  simp only [scaleChange, if_pos hne, hguard, hrecip]

theorem scaleChange_of_ne_zero {a : Axis} (hne : a.scale ≠ a.oldScale) (hzero : a.scale ≠ 0) :
    scaleChange a = { a with oldScale := a.scale, scaleRecip := fxWord (fxDiv fxOne (fxVal a.scale)) } := by
  have hguard : scaleGuard (fxVal a.scale) = fxVal a.scale := by rw [scaleGuard_eq, if_neg (fxVal_ne_zero hzero)]
  rw [scaleChange, if_pos hne, hguard, fxWord_fxVal]

/-- Where OLD_SCALE is not 0, a SCALE of 0 is a change, which S1 detects and forces to 1.0. -/
theorem scaleChange_scale_ne_zero {a : Axis} (h : a.oldScale ≠ 0) :
    (scaleChange a).scale ≠ 0 ∧ (scaleChange a).oldScale ≠ 0 := by
  by_cases heq : a.scale = a.oldScale
  · rw [scaleChange_of_eq heq]
    exact ⟨heq ▸ h, h⟩
  · by_cases hzero : a.scale = 0
    · rw [scaleChange_of_zero heq hzero, fxWord_fxOne]
      exact ⟨by simp, by simp⟩
    · rw [scaleChange_of_ne_zero heq hzero]
      exact ⟨hzero, hzero⟩

/-- The three branches of S1, with 1.0 as the register's word. -/
theorem scaleChange_cases (a : Axis) :
    if a.scale = a.oldScale then
      (scaleChange a).scale = a.scale ∧ (scaleChange a).oldScale = a.oldScale ∧
        (scaleChange a).scaleRecip = a.scaleRecip
    else if a.scale = 0 then
      (scaleChange a).scale = 0x10000000000000000 ∧ (scaleChange a).oldScale = 0x10000000000000000 ∧
        (scaleChange a).scaleRecip = 0x10000000000000000
    else
      (scaleChange a).scale = a.scale ∧ (scaleChange a).oldScale = a.scale ∧
        (scaleChange a).scaleRecip = BitVec.ofInt 128 (fxDiv (2 ^ 64) a.scale.toInt) := by
  split_ifs with heq hzero
  · rw [scaleChange_of_eq heq]
    exact ⟨rfl, rfl, rfl⟩
  · rw [scaleChange_of_zero heq hzero, fxWord_fxOne]
    exact ⟨rfl, rfl, rfl⟩
  · rw [scaleChange_of_ne_zero heq hzero]
    exact ⟨rfl, rfl, rfl⟩

/-- S1 writes SCALE, OLD_SCALE and SCALE_RECIP alone. -/
theorem scaleChange_frame (a : Axis) : ∃ scale oldScale scaleRecip,
    scaleChange a = { a with scale := scale, oldScale := oldScale, scaleRecip := scaleRecip } := by
  unfold scaleChange
  split
  · exact ⟨_, _, _, rfl⟩
  · exact ⟨_, _, _, rfl⟩

/-- abs_s is taken of the SCALE that S1 leaves; S2 does not write it. -/
theorem absScale_eq (a : Axis) : absScale a = fxAbs (fxVal (scaleChange a).scale) := rfl

/-! ## The axis step as one update -/

/-- S5 writes PREV_CMD alone. -/
theorem sampleCommand_eq (a : Axis) :
    sampleCommand a = { a with prevCmd := if a.mode = 0 then a.posCmd else a.prevCmd } := by
  unfold sampleCommand
  split <;> rfl

/-- Every register that S1 to S8 write, each by the one stage that writes it, and no other register. -/
theorem axisStep_eq (mf dt recipDt : Int) (a : Axis) :
    axisStep mf dt recipDt a = { a with
      scale := (scaleChange a).scale
      oldScale := (scaleChange a).oldScale
      scaleRecip := (scaleChange a).scaleRecip
      pgain := nonNegative a.pgain
      ff1gain := nonNegative a.ff1gain
      deadband := nonNegative a.deadband
      maxvel := (velocityCeiling mf a).1
      maxaccel := (accelCeiling mf recipDt a).1
      prevCmd := if a.mode = 0 then a.posCmd else a.prevCmd
      freqCmd :=
        if a.enable then
          fxWord (slewLimit (axisSlew mf dt recipDt a) (fxVal a.freqCmd) (axisTarget mf recipDt a))
        else 0 } := by
  obtain ⟨scale, oldScale, scaleRecip, hscale⟩ := scaleChange_frame a
  rw [axisStep, sampleCommand_eq, clampedAxis, preparedAxis, hscale]
  rfl

/-- Settles O21: no stage after S1 writes SCALE, OLD_SCALE or SCALE_RECIP. -/
theorem scaleChangeIsDetected : Obligations.ScaleChangeIsDetected := by
  unfold Obligations.ScaleChangeIsDetected
  intro mf dt recipDt a
  rw [axisStep_eq]
  exact ⟨scaleChange_cases a, absScale_eq a, scaleChange_scale_ne_zero⟩

/-- Settles O22: S2 takes each tunable through `nonNegative`, and no other stage writes it. -/
theorem negativeTunablesBecomeZero : Obligations.NegativeTunablesBecomeZero := by
  unfold Obligations.NegativeTunablesBecomeZero
  intro mf dt recipDt a
  rw [axisStep_eq]
  exact ⟨rfl, rfl, rfl⟩

/-! ## The two-way clamp -/

/-- BASE_FREQ_HZ * FX_ONE is even, so the halving of R110 is exact. -/
theorem two_mul_mfHw (p : Params) : 2 * mfHw p = (p.baseFreqHz : Int) * 2 ^ 64 := by
  rw [mfHw, fxOne_eq]
  omega

/-- The clamp that R110 and R111 share: no limit, a limit above the ceiling, and one that becomes the ceiling. -/
theorem twoWayClamp_cases (limit : FxWord) (ceiling absS : Int) :
    if limit.toInt ≤ 0 then
      (twoWayClamp limit ceiling absS).1 = 0 ∧ (twoWayClamp limit ceiling absS).2 = ceiling
    else if fxMul limit.toInt absS > ceiling then
      (twoWayClamp limit ceiling absS).1 = BitVec.ofInt 128 (fxDiv ceiling absS) ∧
        (twoWayClamp limit ceiling absS).2 = ceiling
    else
      (twoWayClamp limit ceiling absS).1 = limit ∧
        (twoWayClamp limit ceiling absS).2 = fxMul limit.toInt absS := by
  unfold twoWayClamp fxVal fxWord
  split_ifs <;> exact ⟨rfl, rfl⟩

theorem twoWayClamp_snd_nonneg (limit : FxWord) {ceiling absS : Int} (hceil : 0 ≤ ceiling) (habs : 0 ≤ absS) :
    0 ≤ (twoWayClamp limit ceiling absS).2 := by
  have hcases := twoWayClamp_cases limit ceiling absS
  split_ifs at hcases with hlimit
  · rwa [hcases.2]
  · rwa [hcases.2]
  · rw [hcases.2]
    exact fxMul_nonneg (by omega) habs

theorem velocityCeiling_eq (mf : Int) (a : Axis) : velocityCeiling mf a = twoWayClamp a.maxvel mf (absScale a) := by
  obtain ⟨_, _, _, hscale⟩ := scaleChange_frame a
  rw [velocityCeiling, preparedAxis, hscale]
  rfl

theorem accelCeiling_eq (mf recipDt : Int) (a : Axis) :
    accelCeiling mf recipDt a = twoWayClamp a.maxaccel (fxMul (velocityCeiling mf a).2 recipDt) (absScale a) := by
  obtain ⟨_, _, _, hscale⟩ := scaleChange_frame a
  rw [accelCeiling, preparedAxis, hscale]
  rfl

/-- Settles O24: S3 and S4 are the one two-way clamp, against MF_HW and against mf * RECIP_DT. -/
theorem userLimitsAreClampedBothWays : Obligations.UserLimitsAreClampedBothWays := by
  unfold Obligations.UserLimitsAreClampedBothWays
  intro p dt recipDt a
  have hvel := twoWayClamp_cases a.maxvel (mfHw p) (absScale a)
  have haccel := twoWayClamp_cases a.maxaccel (fxMul (velocityCeiling (mfHw p) a).2 recipDt) (absScale a)
  rw [← velocityCeiling_eq, absScale_eq] at hvel
  rw [← accelCeiling_eq, absScale_eq] at haccel
  rw [axisStep_eq]
  exact ⟨two_mul_mfHw p, hvel, haccel⟩

/-! ## The published frequency -/

theorem velocityCeiling_nonneg {mf : Int} (a : Axis) (hmf : 0 ≤ mf) : 0 ≤ (velocityCeiling mf a).2 :=
  twoWayClamp_snd_nonneg _ hmf (fxAbs_nonneg _)

theorem accelCeiling_nonneg {mf recipDt : Int} (a : Axis) (hmf : 0 ≤ mf) (hrecip : 0 ≤ recipDt) :
    0 ≤ (accelCeiling mf recipDt a).2 :=
  twoWayClamp_snd_nonneg _ (fxMul_nonneg (velocityCeiling_nonneg a hmf) hrecip) (fxAbs_nonneg _)

theorem axisSlew_nonneg {mf dt recipDt : Int} (a : Axis) (hmf : 0 ≤ mf) (hdt : 0 ≤ dt) (hrecip : 0 ≤ recipDt) :
    0 ≤ axisSlew mf dt recipDt a :=
  fxMul_nonneg (accelCeiling_nonneg a hmf hrecip) hdt

/-- Settles O27: the step publishes the slew-limited target, and the SCALE that converts the velocity is the one S1
left. -/
theorem frequencyIsClampedSlewedAndGated : Obligations.FrequencyIsClampedSlewedAndGated := by
  unfold Obligations.FrequencyIsClampedSlewedAndGated
  intro mf dt recipDt a
  rw [axisStep_eq]
  exact ⟨rfl, axisSlew_nonneg a⟩

end Sys2Proof.Machine
end

section
/-! PROOFS of the family 43_feedback_read.md. The parts of a decode as the rules name them (the wrapped difference and the
accumulator as word arithmetic, the scale guard of a SCALE register, the range of the biased numerator); then R131 and R132
for the whole axis. -/

namespace Sys2Proof.Machine

/-! ## The accumulator -/

/-- Wrapping the integer difference to 32 bits is the subtraction of the words. -/
theorem countDiff_eq_sub (raw oldCount : Word32) : countDiff raw oldCount = raw - oldCount := by
  apply BitVec.eq_of_toInt_eq
  rw [countDiff, wrap32, BitVec.toInt_ofInt, BitVec.toInt_sub]

/-- Wrapping the integer sum to 64 bits is the addition of the words, the difference sign-extended. -/
theorem nextCount_eq_add (raw : Word32) (a : Axis) :
    nextCount raw a = a.count + (raw - a.oldCount).signExtend 64 := by
  rw [nextCount, wrap64, BitVec.ofInt_add, BitVec.ofInt_toInt, countDiff_eq_sub, BitVec.signExtend]

/-! ## The published position -/

/-- The divisor of a decode: the epsilon of R130 is one raw unit, so that only a SCALE of 0 is replaced by 1.0. -/
theorem scaleGuard_fxVal (scale : FxWord) :
    scaleGuard (fxVal scale) = if scale = 0 then 2 ^ 64 else scale.toInt := by
  rw [scaleGuard_eq]
  by_cases hzero : scale = 0
  · rw [hzero, fxVal_zero, if_pos rfl, if_pos rfl]
    rfl
  · rw [if_neg (fxVal_ne_zero hzero), if_neg hzero, fxVal]

/-- The numerator of R132 is exact: at the greatest count it is FX_MAX + 1 - FX_HALF, at the least FX_MIN + FX_HALF. -/
theorem biasedCount_bounds (count : BitVec 64) :
    -2 ^ 127 ≤ count.toInt * 2 ^ 64 + 2 ^ 63 ∧ count.toInt * 2 ^ 64 + 2 ^ 63 ≤ 2 ^ 127 - 1 := by
  have hlo : -2 ^ 63 ≤ count.toInt := BitVec.le_toInt count
  have hhi : count.toInt < 2 ^ 63 := BitVec.toInt_lt
  constructor <;> omega

/-! ## The two decodes -/

/-- Settles O45: the decode is R131's update once its guard is read as a test of SCALE for 0. -/
theorem absoluteFeedbackIsRawOverScale : Obligations.AbsoluteFeedbackIsRawOverScale := by
  unfold Obligations.AbsoluteFeedbackIsRawOverScale
  intro raw a
  rw [decodeAbsolute, scaleGuard_fxVal, fxWord]
  rfl

/-- Settles O46: the decode is R132's update in word arithmetic, and the range of COUNT bounds the numerator. -/
theorem incrementalFeedbackAccumulates : Obligations.IncrementalFeedbackAccumulates := by
  unfold Obligations.IncrementalFeedbackAccumulates
  intro raw a count num
  have hdecode : decodeIncremental raw a = { a with
      count := count
      oldCount := raw
      posFb := BitVec.ofInt 128 (fxDiv num (if a.scale = 0 then 2 ^ 64 else a.scale.toInt)) } := by
    rw [decodeIncremental, nextCount_eq_add, scaleGuard_fxVal, fxWord]
    rfl
  exact ⟨hdecode, biasedCount_bounds count⟩

end Sys2Proof.Machine
end

section
/-! PROOFS of the family 44_host_ops.md. The command word that decodes to NOP, by its fields; and INIT, by the mode and the
tags of the axes. -/

namespace Sys2Proof.Machine

/-! ## NOP -/

theorem noAddr_eq_instr_iff (addr : RegAddr) (i k : Instr) : noAddr addr i = .instr k ↔ addr = 0 ∧ i = k := by
  unfold noAddr
  split
  next h => simp [h]
  next h => exact iff_of_false (by simp) fun ⟨haddr, _⟩ => h haddr

/-- The three fields of a NOP word are 0: the other rows of the opcode table decode to other operations. -/
theorem decode_eq_nop_iff (cmd : Word32) (d : FxWord) :
    decode cmd d = .instr .nop ↔ rsvField cmd = 0 ∧ (opcField cmd).toNat = 0 ∧ addrField cmd = 0 := by
  unfold decode
  split
  next hrsv => exact iff_of_false (by simp) fun ⟨hzero, _⟩ => hrsv hzero
  next hrsv =>
    split
    case h_1 hopc =>
      rw [noAddr_eq_instr_iff]
      exact ⟨fun ⟨haddr, _⟩ => ⟨not_not.mp hrsv, hopc, haddr⟩, fun ⟨_, _, haddr⟩ => ⟨haddr, rfl⟩⟩
    -- the reserved opcodes
    case h_8 hopc _ _ _ _ _ _ => exact iff_of_false (by simp) fun ⟨_, hzero, _⟩ => hopc hzero
    -- the six other operations
    all_goals next hopc => simp [noAddr_eq_instr_iff, hopc]

/-- OPC, RSV and ADDR are all of the command word. -/
theorem fields_eq_zero_iff (cmd : Word32) :
    (rsvField cmd = 0 ∧ (opcField cmd).toNat = 0 ∧ addrField cmd = 0) ↔ cmd = 0 := by
  rw [rsvField_eq_zero_iff, toNat_opcField, addrField_eq_zero_iff, ← BitVec.toNat_inj,
    show (0 : Word32).toNat = 0 from rfl]
  omega

/-- Settles O13: the decoder answers NOP where all three fields are 0, which is the word 0. -/
theorem nopChangesNothing : Obligations.NopChangesNothing := by
  unfold Obligations.NopChangesNothing
  exact ⟨fun _ => rfl, fun cmd d => (decode_eq_nop_iff cmd d).trans (fields_eq_zero_iff cmd)⟩

/-! ## INIT -/

theorem axisTagsOk_iff (a : Axis) : axisTagsOk a = true ↔ ¬ (1 < a.mode.toNat ∨ 1 < a.fbType.toNat) := by
  simp [axisTagsOk]

theorem all_axisTagsOk_iff (axes : List Axis) :
    axes.all axisTagsOk = true ↔ ¬ ∃ a ∈ axes, 1 < a.mode.toNat ∨ 1 < a.fbType.toNat := by
  simp only [List.all_eq_true, axisTagsOk_iff, not_exists, not_and]

theorem raise_cfgErr (s : State) : raise .cfgErr s = { s with err := s.err ||| 0x1 } := rfl

theorem exec_init_of_run {s : State} (hmode : s.coreMode = .run) : exec .init s = .next s := if_pos hmode

theorem exec_init_of_tagsOk {s : State} (hmode : s.coreMode ≠ .run) (htags : s.axes.all axisTagsOk = true) :
    exec .init s = .next { s with coreMode := .run } := by
  simp only [exec, execInit, if_neg hmode, if_pos htags]

theorem exec_init_of_badTag {s : State} (hmode : s.coreMode ≠ .run) (htags : ¬ s.axes.all axisTagsOk = true) :
    exec .init s = .next { s with err := s.err ||| 0x1 } := by
  simp only [exec, execInit, if_neg hmode, if_neg htags, raise_cfgErr]

/-- Settles O14: the three branches of INIT, with its check read as the absence of a tag above 1. -/
theorem initChecksTheTags : Obligations.InitChecksTheTags := by
  unfold Obligations.InitChecksTheTags
  intro s
  split
  next hmode => exact exec_init_of_run hmode
  next hmode =>
    split
    next hbad => exact exec_init_of_badTag hmode (mt (all_axisTagsOk_iff s.axes).mp (not_not.mpr hbad))
    next hbad => exact exec_init_of_tagsOk hmode ((all_axisTagsOk_iff s.axes).mpr hbad)

end Sys2Proof.Machine
end

section
/-! PROOFS of the command words and the register map. The fields of an encoded word, and that the encoder is the only
preimage of each operation; then REG_READ and REG_WRITE by register, said once for a whole axis bank, for the globals and
for each window of channels. -/

namespace Sys2Proof.Machine

/-! ## Decoding an encoded word -/

@[simp] theorem opcField_cmdWord (opc : BitVec 8) (addr : RegAddr) : opcField (cmdWord opc addr) = opc :=
  Laws.opc_of_cmdWord opc addr

@[simp] theorem rsvField_cmdWord (opc : BitVec 8) (addr : RegAddr) : rsvField (cmdWord opc addr) = 0 :=
  Laws.rsv_of_cmdWord opc addr

@[simp] theorem addrField_cmdWord (opc : BitVec 8) (addr : RegAddr) : addrField (cmdWord opc addr) = addr := by
  apply BitVec.eq_of_getLsbD_eq
  intro i hi
  rw [addrField, BitVec.getLsbD_extractLsb', Laws.getLsbD_cmdWord, if_pos (by omega)]
  simp [hi]

/-- CMDGEN reads back its period from the low word of DATA_IN, whatever the encoder put above it. -/
@[simp] theorem periodField_setWidth (period : Word32) : periodField (period.setWidth 128) = period := by
  apply BitVec.eq_of_getLsbD_eq
  intro i hi
  simp [periodField, hi, show i < 128 by omega]

@[simp] theorem noAddr_zero (i : Instr) : noAddr 0 i = .instr i := if_pos rfl

/-- An encoded word passes the RSV check and goes to the row of its OPC. -/
theorem decode_cmdWord (opc : BitVec 8) (addr : RegAddr) (d : FxWord) :
    decode (cmdWord opc addr) d =
      match opc.toNat with
      | 0x00 => noAddr addr .nop
      | 0x01 => noAddr addr .init
      | 0x02 => noAddr addr (.cmdgen (periodField d))
      | 0x03 => noAddr addr .linkWrite
      | 0x04 => noAddr addr .linkRead
      | 0x05 => .instr (.regWrite addr d)
      | 0x06 => .instr (.regRead addr)
      | _ => .illegal .reservedOpcode := by
  rw [decode, if_neg (by simp), opcField_cmdWord, addrField_cmdWord] <;> rfl

theorem decode_encode (i : Instr) : decode (encode i).1 (encode i).2 = .instr i := by
  rw [encode, decode_cmdWord]
  cases i with
  | nop | init | linkWrite | linkRead => exact noAddr_zero _
  | cmdgen period => exact (noAddr_zero _).trans (by rw [Instr.dataOperand, periodField_setWidth])
  | regWrite addr data | regRead addr => rfl

/-- Settles O1: the three fields of an encoded word are read back, and so is the operand in DATA_IN. -/
theorem decodeOfEncodeIsTheOperation : Obligations.DecodeOfEncodeIsTheOperation := by
  unfold Obligations.DecodeOfEncodeIsTheOperation
  exact decode_encode

/-! ## The rows of the opcode table -/

/-- A word is made of its fields, where RSV is 0. -/
theorem cmdWord_fields {cmd : Word32} (h : rsvField cmd = 0) : cmdWord (opcField cmd) (addrField cmd) = cmd := by
  apply BitVec.eq_of_getLsbD_eq
  intro i hi
  rw [Laws.getLsbD_cmdWord]
  split
  · simp [addrField, *]
  · split
    · have hbit : (rsvField cmd).getLsbD (i - 16) = false := by rw [h]; simp
      rw [rsvField, BitVec.getLsbD_extractLsb', show 16 + (i - 16) = i by omega] at hbit
      simpa [show i - 16 < 8 by omega] using hbit.symm
    · rw [opcField, BitVec.getLsbD_extractLsb', show 24 + (i - 24) = i by omega]
      simp [show i - 24 < 8 by omega]

theorem rsvField_of_decode {cmd : Word32} {d : FxWord} {i : Instr} (h : decode cmd d = .instr i) :
    rsvField cmd = 0 := by
  by_contra hrsv
  rw [decode, if_pos hrsv] at h
  cases h

theorem eq_encode_of_fields {cmd : Word32} {i : Instr} (hrsv : rsvField cmd = 0)
    (hopc : (opcField cmd).toNat = i.opcode.toNat) (haddr : addrField cmd = i.addrOperand) : cmd = (encode i).1 := by
  rw [encode, ← haddr, ← BitVec.eq_of_toNat_eq hopc, cmdWord_fields hrsv]

/-- The only word that decodes to an operation is the one the encoder writes for it. -/
theorem eq_encode_of_decode {cmd : Word32} {d : FxWord} {i : Instr} (h : decode cmd d = .instr i) :
    cmd = (encode i).1 := by
  have hrsv := rsvField_of_decode h
  rw [← cmdWord_fields hrsv, decode_cmdWord] at h
  split at h
  case h_1 hopc | h_2 hopc | h_3 hopc | h_4 hopc | h_5 hopc =>
    obtain ⟨haddr, rfl⟩ := (noAddr_eq_instr_iff _ _ _).mp h
    exact eq_encode_of_fields hrsv hopc haddr
  case h_6 hopc | h_7 hopc =>
    cases h
    exact eq_encode_of_fields hrsv hopc rfl
  case h_8 => cases h

theorem legalEncoding (i : Instr) : Laws.LegalEncoding.Statement i := by
  cases i with
  | nop => exact Laws.LegalEncoding.nop
  | init => exact Laws.LegalEncoding.init
  | cmdgen period => exact Laws.LegalEncoding.cmdgen period
  | linkWrite => exact Laws.LegalEncoding.linkWrite
  | linkRead => exact Laws.LegalEncoding.linkRead
  | regWrite addr data => exact Laws.LegalEncoding.regWrite addr data
  | regRead addr => exact Laws.LegalEncoding.regRead addr

/-- The mask of REG_WRITE and REG_READ fixes OPC and RSV and leaves ADDR. -/
theorem eq_cmdWord_of_highMask {cmd : Word32} {opc : BitVec 8} (h : cmd &&& 0xFFFF0000#32 = cmdWord opc 0) :
    cmd = cmdWord opc (addrField cmd) := by
  have hopc : opcField cmd = opc := by
    rw [← opcField_cmdWord opc 0, ← h, opcField, opcField, BitVec.extractLsb'_and,
      show (0xFFFF0000#32).extractLsb' 24 8 = BitVec.allOnes 8 by decide, BitVec.and_allOnes]
  have hrsv : rsvField cmd = 0 := by
    rw [← rsvField_cmdWord opc 0, ← h, rsvField, rsvField, BitVec.extractLsb'_and,
      show (0xFFFF0000#32).extractLsb' 16 8 = BitVec.allOnes 8 by decide, BitVec.and_allOnes]
  rw [← hopc, cmdWord_fields hrsv]

/-- A word under the full mask of a row is the row's pattern, which is the encoded word of an operation without operand
in CMD. -/
theorem eq_cmdWord_of_fullMask {cmd bits : Word32} {opc : BitVec 8} (hbits : bits = cmdWord opc 0)
    (h : (cmd &&& 0xFFFFFFFF#32 == bits) = true) : cmd = cmdWord opc 0 := by
  rw [← hbits, ← eq_of_beq h, show (0xFFFFFFFF#32 : Word32) = BitVec.allOnes 32 by decide, BitVec.and_allOnes]

/-- A word of a row decodes to an operation. -/
theorem exists_instr_of_covers {r : OpcodeRow} {cmd : Word32} (d : FxWord) (hr : r ∈ opcodeRows)
    (h : r.covers cmd = true) : ∃ i, decode cmd d = .instr i := by
  simp only [opcodeRows, List.mem_cons, List.not_mem_nil, or_false] at hr
  rcases hr with rfl | rfl | rfl | rfl | rfl | rfl | rfl
  · rw [eq_cmdWord_of_fullMask (opc := 0x00) (by decide) h]; exact ⟨.nop, decode_cmdWord _ _ _⟩
  · rw [eq_cmdWord_of_fullMask (opc := 0x01) (by decide) h]; exact ⟨.init, decode_cmdWord _ _ _⟩
  · rw [eq_cmdWord_of_fullMask (opc := 0x02) (by decide) h]; exact ⟨.cmdgen _, decode_cmdWord _ _ _⟩
  · rw [eq_cmdWord_of_fullMask (opc := 0x03) (by decide) h]; exact ⟨.linkWrite, decode_cmdWord _ _ _⟩
  · rw [eq_cmdWord_of_fullMask (opc := 0x04) (by decide) h]; exact ⟨.linkRead, decode_cmdWord _ _ _⟩
  · rw [eq_cmdWord_of_highMask (opc := 0x05) ((eq_of_beq h).trans (by decide))]
    exact ⟨.regWrite _ d, decode_cmdWord _ _ _⟩
  · rw [eq_cmdWord_of_highMask (opc := 0x06) ((eq_of_beq h).trans (by decide))]
    exact ⟨.regRead _, decode_cmdWord _ _ _⟩

/-- Settles O3: a word of a row decodes, a word that decodes is the encoded one, and of an encoded word the rows are known
(`LegalEncoding`). -/
theorem opcodeRowsAreTheDecodedWords : Obligations.OpcodeRowsAreTheDecodedWords := by
  unfold Obligations.OpcodeRowsAreTheDecodedWords
  intro cmd d r hr
  have rowOf : ∀ i, decode cmd d = .instr i → (r.covers cmd = true ↔ r.mnemonic = i.mnemonic) := fun i hi => by
    rw [eq_encode_of_decode hi]
    exact (legalEncoding i).2 r hr
  constructor
  · intro h
    obtain ⟨i, hi⟩ := exists_instr_of_covers d hr h
    exact ⟨i, hi, ((rowOf i hi).mp h).symm⟩
  · rintro ⟨i, hi, hmnem⟩
    exact (rowOf i hi).mpr hmnem.symm

/-- Settles O5: each word is the encoded one of its operation. -/
theorem vectorWordsDecode : Obligations.VectorWordsDecode := by
  unfold Obligations.VectorWordsDecode
  exact ⟨decode_encode .nop, decode_encode .init, decode_encode (.cmdgen 1000000), decode_encode .linkWrite,
    decode_encode .linkRead, decode_encode (.regWrite 0x1003 18446744073709551616000), decode_encode (.regRead 0x0507)⟩

/-- Settles O4: the port takes the event off and hands the operation to `exec`. -/
theorem stepRunsTheDecodedOperation : Obligations.StepRunsTheDecodedOperation := by
  unfold Obligations.StepRunsTheDecodedOperation
  intro s c es i hr hs hi
  rw [step_of_command hr hs]
  simp only [performCommand, hi, takeEvent, hs, List.tail_cons]

/-! ## The register map -/

theorem regAt_eq_some_iff {p : Params} {r : Reg} {a : RegAddr} (hp : p.wellFormed = true) :
    regAt p a = some r ↔ r.mapped p = true ∧ regAddress r = a :=
  ⟨mapped_and_regAddress_of_regAt, fun ⟨hr, ha⟩ => ha ▸ regAt_regAddress hp hr⟩

/-- Settles O6, by the two directions of the register map. -/
theorem registerAddressesAreOneToOne : Obligations.RegisterAddressesAreOneToOne := by
  unfold Obligations.RegisterAddressesAreOneToOne
  exact fun _ _ _ => regAt_eq_some_iff

/-! ## REG_READ -/

theorem boolWord_eq (b : Bool) : boolWord b = (BitVec.ofBool b).setWidth 128 := by cases b <;> rfl

theorem getD_of_getElem? {α : Type} {l : List α} {i : Nat} {x y : α} (h : l[i]? = some x) : l.getD i y = x := by
  rw [List.getD_eq_getElem?_getD, h, Option.getD_some]

theorem exec_regRead_axis {s : State} {j : Nat} {a : Axis} (hp : s.cfg.wellFormed = true) (hj : j < s.cfg.J)
    (ha : s.axes[j]? = some a) (r : AxisReg) :
    exec (.regRead (BitVec.ofNat 16 (0x1000 + 0x20 * j + axisOffset r))) s =
      .next { s with dataOut := readAxis a r } := by
  rw [show BitVec.ofNat 16 (0x1000 + 0x20 * j + axisOffset r) = regAddress (.axis j r) from rfl,
    exec_regRead_regAddress (r := .axis j r) hp (decide_eq_true hj), readReg, getD_of_getElem? ha]

/-- Settles O8: the bank is the list of the axis registers, each with its offset and its value. -/
theorem regReadOfAnAxisBank : Obligations.RegReadOfAnAxisBank := by
  unfold Obligations.RegReadOfAnAxisBank
  intro s j a hp hj ha
  rw [← boolWord_eq]
  show ∀ x ∈ axisRegs.map fun r => (axisOffset r, readAxis a r), _
  exact List.forall_mem_map.mpr fun r _ => exec_regRead_axis hp hj ha r

theorem exec_regRead_global {s : State} (hp : s.cfg.wellFormed = true) (r : GlobalReg) {v : FxWord}
    (hv : readGlobal s r = v) :
    exec (.regRead (BitVec.ofNat 16 (globalAddress r))) s = .next { s with dataOut := v } :=
  hv ▸ exec_regRead_regAddress (r := .global r) hp rfl

theorem coreModeWord_eq (m : CoreMode) : unsignedWord (coreModeCode m) = if m = .run then 1 else 0 := by
  cases m <;> rfl

theorem hsStateWord_eq (h : HsState) :
    unsignedWord (hsStateCode h) = (match h with | .disabled => 0 | .armed => 1 | .active => 2 | .fault => 3) := by
  cases h <;> rfl

/-- Settles O9: the globals are one list with their addresses and values; a channel reads from its list. -/
theorem regReadOfGlobalsAndChannels : Obligations.RegReadOfGlobalsAndChannels := by
  unfold Obligations.RegReadOfGlobalsAndChannels
  intro s hp
  refine ⟨?_, fun n v hn hv => ?_, fun m v hm hv => ?_, fun k b hk hb => ?_, fun k b hk hb => ?_, fun k b hk hb => ?_⟩
  · simp only [List.forall_mem_cons]
    have read := exec_regRead_global hp
    exact ⟨read .coreMode (coreModeWord_eq _), read .err rfl, read .linkEnable (boolWord_eq _),
      read .linkReset (boolWord_eq _), read .linkStatus (boolWord_eq _), read .hsState (hsStateWord_eq _),
      read .hwResetIn (boolWord_eq _), read .hwResetOut (boolWord_eq _), read .lastRxTag rfl, read .attemptCount rfl,
      read .dt rfl, read .recipDt rfl, read .oldPeriod rfl, read .prevReset (boolWord_eq _),
      read .rxFresh (boolWord_eq _), List.forall_mem_nil _⟩
  · rw [← getD_of_getElem? (y := 0) hv]
    exact exec_regRead_regAddress (r := .setpoint n) hp (decide_eq_true hn)
  · rw [← getD_of_getElem? (y := 0) hv]
    exact exec_regRead_regAddress (r := .pv m) hp (decide_eq_true hm)
  · rw [← boolWord_eq, ← getD_of_getElem? (y := false) hb]
    exact exec_regRead_regAddress (r := .dout k) hp (decide_eq_true hk)
  · rw [← boolWord_eq, ← getD_of_getElem? (y := false) hb]
    exact exec_regRead_regAddress (r := .din k) hp (decide_eq_true hk)
  · rw [← boolWord_eq, ← getD_of_getElem? (y := true) hb]
    exact exec_regRead_regAddress (r := .dinNot k) hp (decide_eq_true hk)

end Sys2Proof.Machine
end

section
/-! PROOFS of REG_WRITE, the errors and the modes. A write by the access type of its register, and what every register reads
as after it; which errors each operation can raise; and which operations change CORE_MODE. -/

namespace Sys2Proof.Machine

/-! ## REG_WRITE by access type -/

theorem writeMapped_of_ro {r : Reg} (h : regAccess r = .ro) (d : FxWord) (s : State) :
    writeMapped r d s = { s with err := s.err ||| 0x8 } := by
  rw [writeMapped, h]
  rfl

theorem writeMapped_of_rw {r : Reg} (h : regAccess r = .rw) (d : FxWord) (s : State) :
    writeMapped r d s = writeReg s d r := by
  rw [writeMapped, h]

theorem writeMapped_of_rwc_run {r : Reg} {s : State} (h : regAccess r = .rwc) (hm : s.coreMode = .run) (d : FxWord) :
    writeMapped r d s = { s with err := s.err ||| 0x10 } := by
  rw [writeMapped, h]
  exact if_pos hm

theorem writeMapped_of_rwc_config {r : Reg} {s : State} (h : regAccess r = .rwc) (hm : s.coreMode = .config)
    (d : FxWord) : writeMapped r d s = writeReg s d r := by
  rw [writeMapped, h]
  exact if_neg (by simp [hm])

/-! ## By address -/

theorem writeReg_axis {s : State} {j : Nat} {a : Axis} (ha : s.axes[j]? = some a) (d : FxWord) (r : AxisReg) :
    writeReg s d (.axis j r) = { s with axes := s.axes.set j (writeAxis a d r) } := by
  rw [writeReg, List.modify_eq_set_getElem?, ha]
  rfl

theorem exec_regWrite_axis {s : State} {j : Nat} (hp : s.cfg.wellFormed = true) (hj : j < s.cfg.J) (d : FxWord)
    (r : AxisReg) :
    exec (.regWrite (BitVec.ofNat 16 (0x1000 + 0x20 * j + axisOffset r)) d) s = .next (writeMapped (.axis j r) d s) :=
  exec_regWrite_regAddress (r := .axis j r) hp (decide_eq_true hj) d

/-- Settles O12: each clause is the list of the registers with one access type, in the order of their offsets. -/
theorem regWriteOfAxisRegisters : Obligations.RegWriteOfAxisRegisters := by
  unfold Obligations.RegWriteOfAxisRegisters
  intro s j a d hp hj ha
  have write := exec_regWrite_axis hp hj d
  refine ⟨fun o ho hm => ?_, fun x hx hm => ?_, fun x hx => ?_, fun o ho => ?_⟩
  · obtain ⟨r, hr, rfl⟩ := List.mem_map.mp (show o ∈ [AxisReg.mode, .fbType].map axisOffset from ho)
    have hacc : ∀ r ∈ [AxisReg.mode, .fbType], axisAccess r = .rwc := by decide
    rw [write, writeMapped_of_rwc_run (r := .axis j r) (hacc r hr) hm]
  · obtain ⟨r, hr, rfl⟩ :=
      List.mem_map.mp (show x ∈ [AxisReg.mode, .fbType].map fun r => (axisOffset r, writeAxis a d r) from hx)
    have hacc : ∀ r ∈ [AxisReg.mode, .fbType], axisAccess r = .rwc := by decide
    rw [write, writeMapped_of_rwc_config (r := .axis j r) (hacc r hr) hm, writeReg_axis ha]
  · obtain ⟨r, hr, rfl⟩ := List.mem_map.mp
      (show x ∈ [AxisReg.enable, .scale, .pgain, .ff1gain, .deadband, .maxvel, .maxaccel, .posCmd, .velCmd].map
        fun r => (axisOffset r, writeAxis a d r) from hx)
    have hacc : ∀ r ∈ [AxisReg.enable, .scale, .pgain, .ff1gain, .deadband, .maxvel, .maxaccel, .posCmd, .velCmd],
      axisAccess r = .rw := by decide
    rw [write, writeMapped_of_rw (r := .axis j r) (hacc r hr), writeReg_axis ha]
  · obtain ⟨r, hr, rfl⟩ := List.mem_map.mp
      (show o ∈ [AxisReg.posFb, .count, .freqCmd, .scaleRecip, .oldScale, .prevCmd, .oldCount].map axisOffset from ho)
    have hacc : ∀ r ∈ [AxisReg.posFb, .count, .freqCmd, .scaleRecip, .oldScale, .prevCmd, .oldCount],
      axisAccess r = .ro := by decide
    rw [write, writeMapped_of_ro (r := .axis j r) (hacc r hr)]

/-- Settles O60: a global by its name, and a channel by its window; the read-only globals are one list. -/
theorem regWriteOfGlobalsAndChannels : Obligations.RegWriteOfGlobalsAndChannels := by
  unfold Obligations.RegWriteOfGlobalsAndChannels
  intro s d hp roWrite
  have write {r : Reg} (hr : r.mapped s.cfg = true) := exec_regWrite_regAddress hp hr d
  have roWrites {r : Reg} (hr : r.mapped s.cfg = true) (ha : regAccess r = .ro) :
      exec (.regWrite (regAddress r) d) s = roWrite := (write hr).trans (by rw [writeMapped_of_ro ha])
  refine ⟨write (r := .global .linkEnable) rfl, write (r := .global .linkReset) rfl,
    write (r := .global .hwResetIn) rfl, write (r := .global .err) rfl, fun a ha => ?_, fun n hn => ?_, fun m hm => ?_,
    fun k hk => ⟨?_, ?_, ?_⟩⟩
  · obtain ⟨r, hr, rfl⟩ := List.mem_map.mp
      (show a ∈ [GlobalReg.coreMode, .linkStatus, .hsState, .hwResetOut, .lastRxTag, .attemptCount, .dt, .recipDt,
        .oldPeriod, .prevReset, .rxFresh].map globalAddress from ha)
    have hacc : ∀ r ∈ [GlobalReg.coreMode, .linkStatus, .hsState, .hwResetOut, .lastRxTag, .attemptCount, .dt, .recipDt,
      .oldPeriod, .prevReset, .rxFresh], globalAccess r = .ro := by decide
    exact roWrites (r := .global r) rfl (hacc r hr)
  · exact write (r := .setpoint n) (decide_eq_true hn)
  · exact roWrites (r := .pv m) (decide_eq_true hm) rfl
  · exact write (r := .dout k) (decide_eq_true hk)
  · exact roWrites (r := .din k) (decide_eq_true hk) rfl
  · exact roWrites (r := .dinNot k) (decide_eq_true hk) rfl

/-! ## What a register reads as after a write -/

/-- The host may write the register in some mode. -/
def Access.writable (a : Access) : Prop := a = .rw ∨ a = .rwc

/-- A read of a global after a write of one that the host may write. -/
theorem readGlobal_writeGlobal {g : GlobalReg} (h : (globalAccess g).writable) (s : State) (d : FxWord)
    (g' : GlobalReg) :
    readGlobal (writeGlobal s d g) g' = if g' = g then typeImage (globalType g) d else readGlobal s g' := by
  cases g with
  | linkEnable | linkReset | hwResetIn => cases g' <;> rfl
  | _ => simp [globalAccess, Access.writable] at h

/-- A read of an axis register after a write of one that the host may write. -/
theorem readAxis_writeAxis {r : AxisReg} (h : (axisAccess r).writable) (a : Axis) (d : FxWord) (r' : AxisReg) :
    readAxis (writeAxis a d r) r' = if r' = r then typeImage (axisType r) d else readAxis a r' := by
  cases r with
  | posFb | count | freqCmd | scaleRecip | oldScale | prevCmd | oldCount =>
    simp [axisAccess, Access.writable] at h
  | _ => cases r' <;> rfl

theorem readReg_writeReg {s : State} {r : Reg} (hs : s.sized) (hr : r.mapped s.cfg = true)
    (ha : (regAccess r).writable) (d : FxWord) : readReg (writeReg s d r) r = typeImage (regType r) d := by
  obtain ⟨hsp, hpv, hdo, hdi, hdn, hax⟩ := hs
  cases r with
  | global g => exact (readGlobal_writeGlobal ha s d g).trans (if_pos rfl)
  | setpoint n =>
    have hn : n < s.setpoint.length := hsp ▸ of_decide_eq_true hr
    simp [readReg, writeReg, regType, typeImage, List.getD_eq_getElem?_getD, hn]
  | dout k =>
    have hk : k < s.dout.length := hdo ▸ of_decide_eq_true hr
    simp [readReg, writeReg, regType, typeImage, List.getD_eq_getElem?_getD, hk]
  | pv | din | dinNot => simp [regAccess, Access.writable] at ha
  | axis j o =>
    have hj : j < s.axes.length := hax ▸ of_decide_eq_true hr
    have hget : s.axes[j]? = some s.axes[j] := List.getElem?_eq_getElem hj
    rw [writeReg_axis hget, readReg, getD_of_getElem? (List.getElem?_set_self hj)]
    exact (readAxis_writeAxis ha _ d o).trans (if_pos rfl)

/-- An axis register that is not the one written keeps its value: it is of another axis, or another one of this axis. -/
theorem readAxis_modify_of_ne {axes : List Axis} {j j' : Nat} {r r' : AxisReg} (h : Reg.axis j' r' ≠ .axis j r)
    (ha : (axisAccess r).writable) (d : FxWord) :
    readAxis ((axes.modify j fun a => writeAxis a d r).getD j' Axis.reset) r' =
      readAxis (axes.getD j' Axis.reset) r' := by
  rw [List.getD_eq_getElem?_getD, List.getD_eq_getElem?_getD, List.getElem?_modify]
  cases axes[j']? with
  | none => rfl
  | some a =>
    by_cases hj : j = j'
    · have hr : r' ≠ r := fun heq => h (by rw [hj, heq])
      simp [hj, readAxis_writeAxis ha, hr]
    · simp [hj]

theorem readReg_writeReg_of_ne {r r' : Reg} (h : r' ≠ r) (ha : (regAccess r).writable) (s : State) (d : FxWord) :
    readReg (writeReg s d r) r' = readReg s r' := by
  cases r with
  | global g =>
    cases r' with
    | global g' => exact (readGlobal_writeGlobal ha s d g').trans (if_neg fun heq => h (by rw [heq]))
    | _ => cases g <;> rfl
  | setpoint n =>
    cases r' with
    | setpoint n' =>
      have hn : n ≠ n' := fun heq => h (by rw [heq])
      simp [readReg, writeReg, List.getD_eq_getElem?_getD, List.getElem?_set_ne hn]
    | global g' => cases g' <;> rfl
    | _ => rfl
  | dout k =>
    cases r' with
    | dout k' =>
      have hk : k ≠ k' := fun heq => h (by rw [heq])
      simp [readReg, writeReg, List.getD_eq_getElem?_getD, List.getElem?_set_ne hk]
    | global g' => cases g' <;> rfl
    | _ => rfl
  | pv | din | dinNot => rfl
  | axis j o =>
    cases r' with
    | axis j' o' => exact readAxis_modify_of_ne h ha d
    | global g' => cases g' <;> rfl
    | _ => rfl

/-- A write keeps the lengths of the arrays. -/
theorem writeReg_sized {s : State} (h : s.sized) (d : FxWord) (r : Reg) : (writeReg s d r).sized := by
  cases r with
  | global g => cases g <;> exact h
  | setpoint | dout | axis => simpa [writeReg, State.sized] using h
  | pv | din | dinNot => exact h

theorem boolWord_getLsbD_zero (d : FxWord) : (boolWord (d.getLsbD 0)).toNat = d.toNat % 2 := by
  rw [boolWord_eq, BitVec.toNat_setWidth, BitVec.toNat_ofBool, BitVec.getLsbD, Nat.testBit_zero]
  rcases Nat.mod_two_eq_zero_or_one d.toNat with h | h <;> simp [h]

theorem toNat_unsignedWord_setWidth {w : Nat} (hw : w ≤ 128) (d : FxWord) :
    (unsignedWord (d.setWidth w)).toNat = d.toNat % 2 ^ w := by
  rw [unsignedWord, BitVec.toNat_setWidth, BitVec.toNat_setWidth]
  exact Nat.mod_eq_of_lt ((Nat.mod_lt _ (by positivity)).trans_le (Nat.pow_le_pow_right (by norm_num) hw))

/-- No register that the host may write has a sign-extended type. -/
theorem regType_of_writable {r : Reg} (h : (regAccess r).writable) : regType r ≠ .s32 ∧ regType r ≠ .s64 := by
  cases r with
  | global g => cases g <;> simp_all [regAccess, globalAccess, Access.writable, regType, globalType]
  | axis j o => cases o <;> simp_all [regAccess, axisAccess, Access.writable, regType, axisType]
  | _ => simp [regType]

/-- Settles O10: the write is `writeReg`, after which the register reads as `typeImage` of the operand. -/
theorem regWriteStoresTheTruncatedOperand : Obligations.RegWriteStoresTheTruncatedOperand := by
  unfold Obligations.RegWriteStoresTheTruncatedOperand
  intro s r d hp hs hr hacc
  have hwrite : writeMapped r d s = writeReg s d r :=
    hacc.elim (fun ha => writeMapped_of_rw ha d s) fun ⟨ha, hm⟩ => writeMapped_of_rwc_config ha hm d
  have hwritable : (regAccess r).writable := hacc.imp id And.left
  refine ⟨writeReg s d r, by rw [exec_regWrite_regAddress hp hr, hwrite], ?_, fun r' hne _ =>
    readReg_writeReg_of_ne hne hwritable s d, ?_⟩
  · obtain ⟨h32, h64⟩ := regType_of_writable hwritable
    rw [readReg_writeReg hs hr hwritable]
    cases hty : regType r with
    | bool => exact boolWord_getLsbD_zero d
    | u2 | u8 | u32 => exact toNat_unsignedWord_setWidth (by norm_num) d
    | s32 => exact absurd hty h32
    | s64 => exact absurd hty h64
    | fx => rfl
  · exact ⟨by simp, by simp, by simp, by simp, by simp, by simp, writeReg_sized hs d r⟩

/-! ## Errors -/

/-- Settles O15: `errSet` is a disjunction with the bit of the code. -/
theorem raiseSetsOneErrBit : Obligations.RaiseSetsOneErrBit := by
  unfold Obligations.RaiseSetsOneErrBit
  intro s c
  refine ⟨fun b => ?_, rfl⟩
  have hbit : (1#32 <<< errCode c).getLsbD b = decide (b = errCode c) := by
    have hcode : errCode c < 32 := by cases c <;> decide
    rw [← BitVec.twoPow_eq, BitVec.getLsbD_twoPow]
    by_cases hb : b = errCode c
    · simp [hb, hcode]
    · simp [hb, Ne.symm hb]
  rw [raise_err, errSet, BitVec.getLsbD_or, hbit]
  cases c <;> rfl

/-- The errors an operation can raise (60_exceptions.md R145). -/
def errorsOf : Instr → List ErrCause
  | .nop => []
  | .init => [.cfgErr]
  | .cmdgen _ => [.notRun, .periodErr]
  | .linkWrite => [.notRun, .estop, .badTag, .xferFail]
  | .linkRead => [.notRun]
  | .regWrite _ _ => [.badAddr, .roWrite, .cfgLocked]
  | .regRead _ => [.badAddr]

/-- ERR of `t` is that of `s`, or has one more error, of this list. -/
def errOrRaised (cs : List ErrCause) (s t : State) : Prop := t.err = s.err ∨ ∃ c ∈ cs, t.err = errSet c s.err

theorem classify_errOrRaised (b : Bool) (s : State) : errOrRaised [.estop, .badTag, .xferFail] s (classify b s) := by
  rcases classify_cases b s with ⟨-, h⟩ | ⟨-, -, h⟩ | ⟨-, -, -, h⟩ | ⟨-, -, -, h⟩ <;> rw [h]
  · exact .inr ⟨.xferFail, by simp, rfl⟩
  · exact .inl rfl
  · exact .inr ⟨.estop, by simp, rfl⟩
  · exact .inr ⟨.badTag, by simp, rfl⟩

theorem handshake_errOrRaised (s : State) : errOrRaised [.estop, .badTag, .xferFail] s (handshake s) := by
  rcases handshake_cases s with ⟨-, h⟩ | ⟨-, -, h⟩ | ⟨-, -, -, h⟩ | ⟨-, -, -, h⟩ <;> rw [h]
  · exact .inl rfl
  · simpa [errOrRaised, attemptExchange] using
      classify_errOrRaised (exchange { s with attemptCount := s.attemptCount + 1 }).1.isAbort
        (exchange { s with attemptCount := s.attemptCount + 1 }).2
  · exact .inl rfl
  · exact .inl rfl

/-- ERR is the one W1C register, so that a write which is not to 0x0001 does not clear a bit. -/
theorem eq_err_of_w1c {r : Reg} (h : regAccess r = .w1c) : r = .global .err := by
  cases r with
  | global g => cases g <;> simp_all [regAccess, globalAccess]
  | axis j o => cases o <;> simp [regAccess, axisAccess] at h
  | _ => simp [regAccess] at h

theorem writeMapped_errOrRaised {r : Reg} (h : r ≠ .global .err) (d : FxWord) (s : State) :
    errOrRaised [.badAddr, .roWrite, .cfgLocked] s (writeMapped r d s) := by
  rcases writeMapped_cases r d s with ⟨-, hw⟩ | ⟨-, -, hw⟩ | ⟨-, -, hw⟩ | ⟨ha, hw⟩ | ⟨-, hw⟩
  · exact .inr ⟨.roWrite, by simp, by rw [hw, raise_err]⟩
  · exact .inr ⟨.cfgLocked, by simp, by rw [hw, raise_err]⟩
  · exact .inl (by rw [hw, writeReg_err])
  · exact absurd (eq_err_of_w1c ha) h
  · exact .inl (by rw [hw, writeReg_err])

/-- What an operation does to ERR, but for a REG_WRITE to ERR itself. -/
theorem exec_errOrRaised {i : Instr} {s t : State} (hi : writesTo 0x0001 i = false) (h : exec i s = .next t) :
    errOrRaised (errorsOf i) s t := by
  cases i with
  | nop => exact .inl (by rw [exec_nop_cases h])
  | init =>
    rcases exec_init_cases h with ⟨-, rfl⟩ | ⟨-, -, rfl⟩ | ⟨-, -, rfl⟩
    · exact .inl rfl
    · exact .inl rfl
    · exact .inr ⟨.cfgErr, by simp [errorsOf], rfl⟩
  | cmdgen period =>
    rcases exec_cmdgen_cases h with ⟨-, rfl⟩ | ⟨-, -, rfl⟩ | ⟨-, -, -, rfl⟩
    · exact .inr ⟨.notRun, by simp [errorsOf], rfl⟩
    · exact .inr ⟨.periodErr, by simp [errorsOf], rfl⟩
    · exact .inl (by simp)
  | linkWrite =>
    rcases exec_linkWrite_cases h with ⟨-, rfl⟩ | ⟨-, rfl⟩
    · exact .inr ⟨.notRun, by simp [errorsOf], rfl⟩
    · exact (handshake_errOrRaised (prepareLink s)).imp id fun ⟨c, hc, herr⟩ =>
        ⟨c, List.mem_cons_of_mem _ hc, herr⟩
  | linkRead =>
    rcases exec_linkRead_cases h with ⟨-, rfl⟩ | ⟨-, -, rfl⟩ | ⟨-, -, -, rfl⟩
    · exact .inr ⟨.notRun, by simp [errorsOf], rfl⟩
    · exact .inl rfl
    · exact .inl rfl
  | regWrite a d =>
    rcases exec_regWrite_cases h with ⟨-, rfl⟩ | ⟨r, hr, rfl⟩
    · exact .inr ⟨.badAddr, by simp [errorsOf], rfl⟩
    · have hne : r ≠ .global .err := by
        rintro rfl
        obtain ⟨-, rfl⟩ := mapped_and_regAddress_of_regAt hr
        simp [writesTo, regAddress, globalAddress] at hi
      exact writeMapped_errOrRaised hne d s
  | regRead a =>
    rcases exec_regRead_cases h with ⟨-, rfl⟩ | ⟨r, -, rfl⟩
    · exact .inr ⟨.badAddr, by simp [errorsOf], rfl⟩
    · exact .inl rfl

/-- Settles O16: the statement's list is that of the codes of `errorsOf`. -/
theorem eachOperationRaisesOnlyItsErrors : Obligations.EachOperationRaisesOnlyItsErrors := by
  unfold Obligations.EachOperationRaisesOnlyItsErrors
  intro i s t hi h
  refine (exec_errOrRaised hi h).imp id fun ⟨c, hc, herr⟩ => ⟨errCode c, ?_, herr⟩
  have hcode : errCode c ∈ (errorsOf i).map errCode := List.mem_map_of_mem hc
  cases i <;> exact hcode

/-! ## Where an operation is refused -/

theorem exec_cmdgen_of_config {s : State} (h : s.coreMode = .config) (period : Word32) :
    exec (.cmdgen period) s = .next { s with err := s.err ||| 0x20 } := if_pos h

theorem exec_linkWrite_of_config {s : State} (h : s.coreMode = .config) :
    exec .linkWrite s = .next { s with err := s.err ||| 0x20 } := if_pos h

theorem exec_linkRead_of_config {s : State} (h : s.coreMode = .config) :
    exec .linkRead s = .next { s with err := s.err ||| 0x20 } := if_pos h

theorem exec_cmdgen_of_not_pos {s : State} {period : Word32} (h : s.coreMode = .run) (hper : period.toInt ≤ 0) :
    exec (.cmdgen period) s = .next { s with err := s.err ||| 0x40 } := by
  exact (if_neg (by simp [h])).trans (if_pos hper)

/-- Settles O17: the first test of the three operations is the mode, and that of CMDGEN in RUN mode is the period. -/
theorem refusedOperationsChangeOnlyErr : Obligations.RefusedOperationsChangeOnlyErr := by
  unfold Obligations.RefusedOperationsChangeOnlyErr
  intro s period
  refine ⟨fun hm => ?_, exec_cmdgen_of_not_pos⟩
  simp only [List.forall_mem_cons]
  exact ⟨exec_cmdgen_of_config hm period, exec_linkWrite_of_config hm, exec_linkRead_of_config hm,
    List.forall_mem_nil _⟩

/-! ## Modes -/

theorem tagsLegal_iff (a : Axis) : axisTagsOk a = true ↔ a.tagsLegal := by
  simp [axisTagsOk, Axis.tagsLegal]

theorem all_tagsLegal_iff (axes : List Axis) : axes.all axisTagsOk = true ↔ ∀ a ∈ axes, a.tagsLegal := by
  simp only [List.all_eq_true, tagsLegal_iff]

/-- INIT with legal tags is the one operation that changes CORE_MODE. -/
theorem exec_coreMode {i : Instr} {s t : State} (h : exec i s = .next t) :
    t.coreMode = s.coreMode ∨
      (i = .init ∧ s.coreMode = .config ∧ t.coreMode = .run ∧ ∀ a ∈ s.axes, a.tagsLegal) := by
  cases i with
  | nop => exact .inl (by rw [exec_nop_cases h])
  | init =>
    rcases exec_init_cases h with ⟨-, rfl⟩ | ⟨hm, htags, rfl⟩ | ⟨-, -, rfl⟩
    · exact .inl rfl
    · exact .inr ⟨rfl, hm, rfl, (all_tagsLegal_iff _).mp htags⟩
    · exact .inl rfl
  | cmdgen period =>
    rcases exec_cmdgen_cases h with ⟨-, rfl⟩ | ⟨-, -, rfl⟩ | ⟨-, -, -, rfl⟩ <;> exact .inl (by simp)
  | linkWrite => rcases exec_linkWrite_cases h with ⟨-, rfl⟩ | ⟨-, rfl⟩ <;> exact .inl (by simp)
  | linkRead => rcases exec_linkRead_cases h with ⟨-, rfl⟩ | ⟨-, -, rfl⟩ | ⟨-, -, -, rfl⟩ <;> exact .inl rfl
  | regWrite a d =>
    rcases exec_regWrite_cases h with ⟨-, rfl⟩ | ⟨r, -, rfl⟩
    · exact .inl rfl
    · rcases writeMapped_cases r d s with ⟨-, hw⟩ | ⟨-, -, hw⟩ | ⟨-, -, hw⟩ | ⟨-, hw⟩ | ⟨-, hw⟩ <;>
        exact .inl (by simp [hw])
  | regRead a => rcases exec_regRead_cases h with ⟨-, rfl⟩ | ⟨r, -, rfl⟩ <;> exact .inl rfl

theorem performCommand_coreMode {c : Command} {s t : State} (h : performCommand c s = .next t) :
    t.coreMode = s.coreMode ∨
      (decode c.cmd c.dataIn = .instr .init ∧ s.coreMode = .config ∧ t.coreMode = .run ∧
        ∀ a ∈ s.axes, a.tagsLegal) := by
  rcases performCommand_cases h with ⟨why, -, rfl⟩ | ⟨i, u, hi, hu, rfl⟩
  · exact .inl rfl
  · exact (exec_coreMode hu).imp id fun ⟨hinit, hconfig, hrun, htags⟩ => ⟨hinit ▸ hi, hconfig, hrun, htags⟩

/-- Settles O18: of the five cases of a step a command can only enter RUN mode, and a reset only leave it. -/
theorem modesChangeOnlyByInitAndReset : Obligations.ModesChangeOnlyByInitAndReset := by
  unfold Obligations.ModesChangeOnlyByInitAndReset
  intro s t h
  have unchanged (heq : t.coreMode = s.coreMode) {P Q : Prop} :
      (s.coreMode = .config → t.coreMode = .run → P) ∧ (s.coreMode = .run → t.coreMode = .config → Q) := by
    rw [heq]
    exact ⟨fun h1 h2 => by simp [h1] at h2, fun h1 h2 => by simp [h1] at h2⟩
  rcases step_cases h with ⟨-, rfl⟩ | ⟨c, es, hes, -, hc⟩ | ⟨c, es, -, -, rfl⟩ | ⟨es, -, rfl⟩ | ⟨hreset, rfl⟩
  · exact unchanged rfl
  · rcases performCommand_coreMode hc with heq | ⟨hinit, hconfig, hrun, htags⟩
    · exact unchanged heq
    · exact ⟨fun _ _ => ⟨⟨c, es, hes, hinit⟩, htags⟩, fun _ hcfg => by simp [hrun] at hcfg⟩
  · exact unchanged rfl
  · exact unchanged rfl
  · exact ⟨fun _ hrun => by simp at hrun, fun _ _ => hreset⟩

end Sys2Proof.Machine
end

section
/-! PROOFS of CMDGEN. The tick constants are positive; the control laws and the deadband; the slew-limited frequency stays
between the last one and the target, from which the ceilings follow; and the operation as one update of the axes. -/

namespace Sys2Proof.Machine

/-! ## The tick constants -/

theorem tickSeconds_eq {period : Int} (hpos : 0 < period) (hlt : period < 2 ^ 31) :
    tickSeconds period = period * 2 ^ 64 / 1000000000 := by
  rw [tickSeconds, fxOne_eq, tdiv_eq, Int.tdiv_eq_ediv_of_nonneg (by omega), fxSat_of_bounds (by omega) (by omega)]
  norm_num

theorem tickSeconds_pos {period : Int} (hpos : 0 < period) (hlt : period < 2 ^ 31) : 0 < tickSeconds period := by
  rw [tickSeconds_eq hpos hlt]
  omega

/-- The tick is below 2^67 raw units, so that its reciprocal is at least one. -/
theorem recipTick_pos {period : Int} (hpos : 0 < period) (hlt : period < 2 ^ 31) :
    0 < fxDiv fxOne (tickSeconds period) := by
  have htick := tickSeconds_pos hpos hlt
  have hbound : tickSeconds period ≤ 2 ^ 128 := by
    rw [tickSeconds_eq hpos hlt]
    omega
  have hquot : 1 ≤ tdiv (fxOne * fxOne) (tickSeconds period) := by
    rw [tdiv_eq, fxOne_eq]
    exact Int.le_tdiv_of_mul_le htick (by omega)
  rw [fxDiv_of_ne_zero _ htick.ne']
  exact le_fxSat_of_le (by rw [fxMax_eq]; norm_num) hquot

/-- Settles O20: the quotient of R107 by its floor. -/
theorem tickConstantsArePositive : Obligations.TickConstantsArePositive := by
  unfold Obligations.TickConstantsArePositive
  intro period hpos hlt
  have heq := tickSeconds_eq hpos hlt
  exact ⟨tickSeconds_pos hpos hlt, by omega, by omega, recipTick_pos hpos hlt, fxVal_fxWord (fxSat_inRange _)⟩

theorem cacheTick_of_eq {period : Word32} {s : State} (h : period = s.oldPeriod) : cacheTick period s = s := if_pos h

theorem cacheTick_of_ne {period : Word32} {s : State} (h : period ≠ s.oldPeriod) :
    cacheTick period s = { s with
      oldPeriod := period
      dt := fxWord (tickSeconds period.toInt)
      recipDt := fxWord (fxDiv fxOne (tickSeconds period.toInt)) } := if_neg h

theorem cacheTick_oldPeriod (period : Word32) (s : State) : (cacheTick period s).oldPeriod = period := by
  by_cases h : period = s.oldPeriod
  · rw [cacheTick_of_eq h, h]
  · rw [cacheTick_of_ne h]

theorem cacheTick_tickCached {period : Word32} {s : State} (hs : s.tickCached) (hpos : 0 < period.toInt) :
    (cacheTick period s).tickCached := by
  by_cases h : period = s.oldPeriod
  · rwa [cacheTick_of_eq h]
  · rw [cacheTick_of_ne h]
    exact .inr ⟨hpos, rfl, rfl⟩

/-- The cached tick constants are not negative, so that no limit of the axis step is. -/
theorem tickCached_nonneg {s : State} (h : s.tickCached) : 0 ≤ fxVal s.dt ∧ 0 ≤ fxVal s.recipDt := by
  rcases h with ⟨-, hdt, hrecip⟩ | ⟨hpos, hdt, hrecip⟩
  · rw [hdt, hrecip, fxVal_zero]
    exact ⟨le_rfl, le_rfl⟩
  · rw [hdt, hrecip, fxVal_fxWord (fxSat_inRange _), fxVal_fxWord (fxDiv_inRange _ _)]
    have hlt : s.oldPeriod.toInt < 2 ^ 31 := BitVec.toInt_lt
    exact ⟨(tickSeconds_pos hpos hlt).le, (recipTick_pos hpos hlt).le⟩

/-! ## CMDGEN as one update -/

theorem exec_cmdgen_of_run {s : State} {period : Word32} (hm : s.coreMode = .run) (hpos : 0 < period.toInt)
    (htags : s.axes.all modeTagOk = true) : exec (.cmdgen period) s = .next (stepAxes (cacheTick period s)) :=
  (if_neg (by simp [hm])).trans ((if_neg (by omega)).trans (if_pos htags))

theorem all_modeTagOk_iff (axes : List Axis) : axes.all modeTagOk = true ↔ ∀ a ∈ axes, a.mode.toNat ≤ 1 := by
  simp [List.all_eq_true, modeTagOk]

/-- Settles O19: the constants are those that `cacheTick` leaves, and `stepAxes` reads them. -/
theorem cmdgenStepsEveryAxis : Obligations.CmdgenStepsEveryAxis := by
  unfold Obligations.CmdgenStepsEveryAxis
  intro s period hm hpos htags
  refine ⟨(cacheTick period s).dt, (cacheTick period s).recipDt, ?_, ?_⟩
  · split
    next heq =>
      rw [cacheTick_of_eq heq]
      exact ⟨rfl, rfl⟩
    next hne =>
      rw [cacheTick_of_ne hne]
      exact ⟨rfl, rfl⟩
  · rw [exec_cmdgen_of_run hm hpos ((all_modeTagOk_iff _).mpr htags), stepAxes, cacheTick_cfg, cacheTick_axes,
      mfHw_eq]
    by_cases heq : period = s.oldPeriod
    · rw [cacheTick_of_eq heq, heq]
      rfl
    · rw [cacheTick_of_ne heq]
      rfl

/-- Settles O31: the axes are stepped one by one, by constants that OLD_PERIOD, DT, RECIP_DT and BASE_FREQ_HZ decide. -/
theorem axesAreIndependent : Obligations.AxesAreIndependent := by
  unfold Obligations.AxesAreIndependent
  intro s s' t t' period j hm hbase hper hdt hrecip hax h h'
  have hmf : mfHw s.cfg = mfHw s'.cfg := by rw [mfHw_eq, mfHw_eq, hbase]
  have hconst : (cacheTick period s).dt = (cacheTick period s').dt ∧
      (cacheTick period s).recipDt = (cacheTick period s').recipDt := by
    by_cases heq : period = s.oldPeriod
    · rw [cacheTick_of_eq heq, cacheTick_of_eq (heq.trans hper)]
      exact ⟨hdt, hrecip⟩
    · rw [cacheTick_of_ne heq, cacheTick_of_ne (hper ▸ heq)]
      exact ⟨rfl, rfl⟩
  rcases exec_cmdgen_cases h with ⟨hc, rfl⟩ | ⟨hc, hp, rfl⟩ | ⟨hc, hp, -, rfl⟩ <;>
    rcases exec_cmdgen_cases h' with ⟨hc', rfl⟩ | ⟨hc', hp', rfl⟩ | ⟨hc', hp', -, rfl⟩
  -- the same branch on both sides
  case inl.inl => exact hax
  case inr.inl.inr.inl => exact hax
  case inr.inr.inr.inr =>
    simp only [stepAxes_axes, cacheTick_cfg, cacheTick_axes, List.getElem?_map, hax, hmf, hconst]
  -- the mode or the period would differ
  case inr.inl.inr.inr | inr.inr.inr.inl => omega
  all_goals exact absurd (hc.symm.trans (hm.trans hc')) (by simp)

/-! ## The stages of the axis step -/

/-- Settles O23: the update of the whole step names none of these registers but PREV_CMD. -/
theorem axisStepWritesOnlyItsRegisters : Obligations.AxisStepWritesOnlyItsRegisters := by
  unfold Obligations.AxisStepWritesOnlyItsRegisters
  intro mf dt recipDt a
  rw [axisStep_eq]
  exact ⟨rfl, rfl, rfl, rfl, rfl, rfl, rfl, rfl, rfl⟩

theorem controlVelocity_of_position {a : Axis} (h : a.mode = 0) (recipDt : Int) :
    controlVelocity recipDt a = positionVelocity recipDt a := if_pos h

theorem controlVelocity_of_velocity {a : Axis} (h : a.mode = 1) (recipDt : Int) :
    controlVelocity recipDt a = fxVal a.velCmd := if_neg (by simp [h])

/-- Settles O25, by the mode; the position law is written as the rule writes it. -/
theorem controlLawsGiveTheVelocity : Obligations.ControlLawsGiveTheVelocity := by
  unfold Obligations.ControlLawsGiveTheVelocity
  intro recipDt a
  exact ⟨fun h => controlVelocity_of_position h recipDt, fun h => controlVelocity_of_velocity h recipDt⟩

theorem fxNeg_of_nonneg {x : Int} (hlo : 0 ≤ x) (hhi : x < 2 ^ 127) : fxNeg x = -x := by
  rw [fxNeg_of_bounds (by omega) hhi, if_neg (by omega)]

/-- Settles O26, by the three branches of the law; a subtraction toward 0 does not saturate. -/
theorem deadbandZeroesTheBand : Obligations.DeadbandZeroesTheBand := by
  unfold Obligations.DeadbandZeroesTheBand
  intro db err hdb0 hdb hlo hhi
  have hneg := fxNeg_of_nonneg hdb0 hdb
  refine ⟨fun h1 h2 => ?_, fun h => ?_, fun h => ?_⟩
  · rw [deadbandLaw, hneg, if_neg (by omega), if_neg (by omega)]
  · rw [deadbandLaw, if_pos h, fxSub, fxSat_of_bounds (by omega) (by omega)]
  · rw [deadbandLaw, hneg, if_neg (by omega), if_pos h, fxAdd, fxSat_of_bounds (by omega) (by omega)]

/-! ## The bounds on the frequency -/

/-- BASE_FREQ_HZ is below 2^32, so that the hardware ceiling is far inside the FX range. -/
theorem mfHw_bounds {p : Params} (h : p.wellFormed = true) : 0 ≤ mfHw p ∧ mfHw p < 2 ^ 95 := by
  simp only [Params.wellFormed, Params.baseInRange, Bool.and_eq_true, decide_eq_true_eq] at h
  rw [mfHw_eq]
  omega

theorem twoWayClamp_snd_le (limit : FxWord) (ceiling absS : Int) : (twoWayClamp limit ceiling absS).2 ≤ ceiling := by
  have hcases := twoWayClamp_cases limit ceiling absS
  split_ifs at hcases with _ hover
  · exact hcases.2.le
  · exact hcases.2.le
  · rw [hcases.2]
    omega

theorem velocityCeiling_le (mf : Int) (a : Axis) : (velocityCeiling mf a).2 ≤ mf := twoWayClamp_snd_le _ _ _

theorem targetFrequency_bounds {mf : Int} (hlo : 0 ≤ mf) (hhi : mf < 2 ^ 127) (vel scale : Int) :
    -mf ≤ targetFrequency mf vel scale ∧ targetFrequency mf vel scale ≤ mf := by
  rw [targetFrequency, fxNeg_of_nonneg hlo hhi]
  split_ifs <;> omega

/-- The slew-limited frequency lies between the last one and the target. -/
theorem slewLimit_between {dv f : Int} (hdv : 0 ≤ dv) (hf : fxInRange f) (tgt : Int) :
    min f tgt ≤ slewLimit dv f tgt ∧ slewLimit dv f tgt ≤ max f tgt := by
  have hup : f ≤ fxAdd f dv := le_fxSat_of_le hf.2 (by omega)
  have hdown : fxSub f dv ≤ f := fxSat_le_of_le hf.1 (by omega)
  unfold slewLimit
  split_ifs <;> omega

/-- Saturation only shortens the step of the slew limit. -/
theorem slewLimit_sub_le {dv f : Int} (hdv : 0 ≤ dv) (hf : fxInRange f) (tgt : Int) :
    slewLimit dv f tgt - f ≤ dv ∧ f - slewLimit dv f tgt ≤ dv := by
  obtain ⟨hmin, hmax⟩ := hf
  have hup : fxAdd f dv ≤ f + dv := fxSat_le_of_le (by omega) le_rfl
  have hdown : f - dv ≤ fxSub f dv := le_fxSat_of_le (by omega) le_rfl
  have hup' : f ≤ fxAdd f dv := le_fxSat_of_le hmax (by omega)
  have hdown' : fxSub f dv ≤ f := fxSat_le_of_le hmin (by omega)
  unfold slewLimit
  split_ifs <;> omega

section Frequency

variable {p : Params} {dt recipDt : Int} {a : Axis}

theorem axisTarget_bounds (hp : p.wellFormed = true) (recipDt : Int) (a : Axis) :
    -(velocityCeiling (mfHw p) a).2 ≤ axisTarget (mfHw p) recipDt a ∧
      axisTarget (mfHw p) recipDt a ≤ (velocityCeiling (mfHw p) a).2 := by
  obtain ⟨hlo, hhi⟩ := mfHw_bounds hp
  have hle := velocityCeiling_le (mfHw p) a
  exact targetFrequency_bounds (velocityCeiling_nonneg a hlo) (by omega) _ _

/-- The frequency that an enabled axis publishes. -/
theorem axisStep_freqCmd_of_enabled (hp : p.wellFormed = true) (hdt : 0 ≤ dt) (hrecip : 0 ≤ recipDt)
    (he : a.enable = true) :
    fxVal (axisStep (mfHw p) dt recipDt a).freqCmd =
      slewLimit (axisSlew (mfHw p) dt recipDt a) (fxVal a.freqCmd) (axisTarget (mfHw p) recipDt a) := by
  obtain ⟨hlo, hhi⟩ := mfHw_bounds hp
  have hle := velocityCeiling_le (mfHw p) a
  obtain ⟨htlo, hthi⟩ := axisTarget_bounds hp recipDt a
  have hrange := fxVal_inRange a.freqCmd
  obtain ⟨hslo, hshi⟩ := slewLimit_between (axisSlew_nonneg a hlo hdt hrecip) hrange (axisTarget (mfHw p) recipDt a)
  obtain ⟨hmin, hmax⟩ := hrange
  rw [axisStep_eq]
  simp only [he, if_true]
  refine fxVal_fxWord ⟨?_, ?_⟩
  · rw [fxMin_eq] at hmin ⊢
    omega
  · rw [fxMax_eq] at hmax ⊢
    omega

theorem axisStep_freqCmd_of_disabled (he : a.enable = false) (mf : Int) :
    fxVal (axisStep mf dt recipDt a).freqCmd = 0 := by
  rw [axisStep_eq]
  simp only [he, Bool.false_eq_true, if_false, fxVal_zero]

/-- A bound on the frequency that is not below the ceiling of the tick is kept. -/
theorem axisStep_freqCmd_bounds (hp : p.wellFormed = true) (hdt : 0 ≤ dt) (hrecip : 0 ≤ recipDt)
    (he : a.enable = true) {m : Int} (hm : (velocityCeiling (mfHw p) a).2 ≤ m) (hlo : -m ≤ fxVal a.freqCmd)
    (hhi : fxVal a.freqCmd ≤ m) :
    -m ≤ fxVal (axisStep (mfHw p) dt recipDt a).freqCmd ∧ fxVal (axisStep (mfHw p) dt recipDt a).freqCmd ≤ m := by
  obtain ⟨hmf, -⟩ := mfHw_bounds hp
  obtain ⟨htlo, hthi⟩ := axisTarget_bounds hp recipDt a
  obtain ⟨hslo, hshi⟩ := slewLimit_between (axisSlew_nonneg a hmf hdt hrecip) (fxVal_inRange a.freqCmd)
    (axisTarget (mfHw p) recipDt a)
  rw [axisStep_freqCmd_of_enabled hp hdt hrecip he]
  omega

theorem axisStep_freqBounded (hp : p.wellFormed = true) (hdt : 0 ≤ dt) (hrecip : 0 ≤ recipDt) (h : a.freqBounded p) :
    (axisStep (mfHw p) dt recipDt a).freqBounded p := by
  obtain ⟨hmf, -⟩ := mfHw_bounds hp
  cases he : a.enable with
  | true => exact axisStep_freqCmd_bounds hp hdt hrecip he (velocityCeiling_le _ a) h.1 h.2
  | false =>
    rw [Axis.freqBounded, axisStep_freqCmd_of_disabled he]
    omega

end Frequency

/-- Settles O28: a disabled axis has frequency 0, and the ceiling of the tick is within that of the hardware. -/
theorem axisStepKeepsTheHardwareCeiling : Obligations.AxisStepKeepsTheHardwareCeiling := by
  unfold Obligations.AxisStepKeepsTheHardwareCeiling
  exact fun _ _ _ _ hp hdt hrecip h => axisStep_freqBounded hp hdt hrecip h

/-- Settles O29, by the two bounds on the slew-limited frequency. -/
theorem enabledAxisIsSlewLimited : Obligations.EnabledAxisIsSlewLimited := by
  unfold Obligations.EnabledAxisIsSlewLimited
  intro p dt recipDt a hp hdt hrecip he
  refine ⟨?_, axisStep_freqCmd_bounds hp hdt hrecip he le_rfl⟩
  rw [axisStep_freqCmd_of_enabled hp hdt hrecip he]
  exact slewLimit_sub_le (axisSlew_nonneg a (mfHw_bounds hp).1 hdt hrecip) (fxVal_inRange _) _

/-! ## The tunables that CMDGEN leaves -/

theorem nonNegative_nonneg (w : FxWord) : 0 ≤ fxVal (nonNegative w) := by
  unfold nonNegative
  split
  · exact fxVal_zero.ge
  · omega

/-- Dividing a ceiling by a magnitude and multiplying back does not exceed it: both truncate. -/
theorem fxMul_fxDiv_le {c b : Int} (hc : 0 ≤ c) (hb : 0 < b) : fxMul (fxDiv c b) b ≤ c := by
  have hquot : fxDiv c b ≤ c * fxOne / b := by
    have hnum : 0 ≤ c * fxOne := mul_nonneg hc (by decide)
    rw [fxDiv_of_ne_zero _ hb.ne', tdiv_eq, Int.tdiv_eq_ediv_of_nonneg hnum]
    have : 0 ≤ c * fxOne / b := Int.ediv_nonneg hnum hb.le
    exact fxSat_le_of_le (by rw [fxMin_eq]; omega) le_rfl
  have hprod : fxDiv c b * b ≤ c * fxOne :=
    (mul_le_mul_of_nonneg_right hquot hb.le).trans (Int.ediv_mul_le _ hb.ne')
  have hone : (0 : Int) < fxOne := by decide
  rw [fxMul, tdiv_eq, Int.tdiv_eq_ediv_of_nonneg (mul_nonneg (fxDiv_nonneg hc hb) hb.le)]
  exact fxSat_le_of_le (by rw [fxMin_eq]; omega) ((Int.ediv_le_ediv hone hprod).trans
    (Int.mul_ediv_cancel _ hone.ne').le)

/-- The limit that the two-way clamp writes back: not negative, and within the ceiling. -/
theorem twoWayClamp_fst_bounds (limit : FxWord) {ceiling absS : Int} (hc : 0 ≤ ceiling) (habs : 0 < absS) :
    0 ≤ fxVal (twoWayClamp limit ceiling absS).1 ∧ fxMul (fxVal (twoWayClamp limit ceiling absS).1) absS ≤ ceiling := by
  unfold twoWayClamp
  split_ifs with hzero hover
  · rw [fxVal_zero, fxMul_comm, fxMul_zero_right]
    exact ⟨le_rfl, hc⟩
  · rw [fxVal_fxWord (fxDiv_inRange _ _)]
    exact ⟨fxDiv_nonneg hc habs, fxMul_fxDiv_le hc habs⟩
  · exact ⟨(not_le.mp hzero).le, not_lt.mp hover⟩

/-- What the step leaves in the tunables of one axis. -/
theorem axisStep_legalTunables {p : Params} {dt recipDt : Int} {a : Axis} (hp : p.wellFormed = true)
    (hrecip : 0 ≤ recipDt) (hold : a.oldScale ≠ 0) :
    let b := axisStep (mfHw p) dt recipDt a
    b.scale ≠ 0 ∧ 0 ≤ b.pgain.toInt ∧ 0 ≤ b.ff1gain.toInt ∧ 0 ≤ b.deadband.toInt ∧ 0 ≤ b.maxvel.toInt ∧
      0 ≤ b.maxaccel.toInt ∧ fxMul b.maxvel.toInt (fxAbs b.scale.toInt) ≤ mfHw p := by
  obtain ⟨hmf, -⟩ := mfHw_bounds hp
  obtain ⟨hscale, -⟩ := scaleChange_scale_ne_zero hold
  have habs : 0 < absScale a := by
    rw [absScale_eq]
    exact fxAbs_pos (fxVal_ne_zero hscale)
  obtain ⟨hvel, hceil⟩ := twoWayClamp_fst_bounds a.maxvel hmf habs
  obtain ⟨haccel, -⟩ :=
    twoWayClamp_fst_bounds a.maxaccel (fxMul_nonneg (velocityCeiling_nonneg a hmf) hrecip) habs
  rw [← velocityCeiling_eq] at hvel hceil
  rw [← accelCeiling_eq] at haccel
  rw [axisStep_eq]
  exact ⟨hscale, nonNegative_nonneg _, nonNegative_nonneg _, nonNegative_nonneg _, hvel, haccel, hceil⟩

/-- Settles O30: the tunables of each axis after its step, OLD_SCALE not being 0 by the invariant. -/
theorem cmdgenLeavesLegalTunables : Obligations.CmdgenLeavesLegalTunables := by
  unfold Obligations.CmdgenLeavesLegalTunables
  intro s t period hs hm hpos h a ha
  rcases exec_cmdgen_cases h with ⟨hc, -⟩ | ⟨-, hp, -⟩ | ⟨-, -, -, rfl⟩
  · simp [hm] at hc
  · omega
  · simp only [stepAxes_axes, cacheTick_cfg, cacheTick_axes, List.mem_map] at ha
    obtain ⟨b, hb, rfl⟩ := ha
    obtain ⟨-, hrecip⟩ := tickCached_nonneg (cacheTick_tickCached hs.tick hpos)
    exact axisStep_legalTunables hs.params hrecip (hs.scales b hb).1

end Sys2Proof.Machine
end

section
/-! PROOFS of the packet spaces and the transport. A packet is written as one run of bytes; a bitfield byte by its bits; and
the line of either transport, sampled or captured, gives the bytes back. -/

namespace Sys2Proof.Machine

/-! ## Little-endian fields -/

/-- MemRead of what MemWrite stored is the value, truncated to the size of the field. -/
theorem memRead_memWrite {m : Memory} (h : m.wf = true) (a n v : Nat) : memRead (memWrite m a n v) a n = v % 256 ^ n := by
  induction n generalizing m a v with
  | zero => simp [memRead, Nat.mod_one]
  | succ n ih =>
    have hm := memWriteByte_wf h a (BitVec.ofNat 8 v)
    rw [memRead, memWrite, ih hm, memReadByte_memWrite hm, if_neg (by omega), memReadByte_memWriteByte h, if_pos rfl,
      BitVec.toNat_ofNat, show 256 ^ (n + 1) = 256 * 256 ^ n from pow_succ' _ _, Nat.mod_mul]

theorem toNat_append_eq {n m : Nat} (x : BitVec n) (y : BitVec m) : (x ++ y).toNat = x.toNat * 2 ^ m + y.toNat := by
  rw [BitVec.toNat_append, ← Nat.shiftLeft_add_eq_or_of_lt y.isLt, Nat.shiftLeft_eq]

theorem memRead_four (m : Memory) (a : Nat) :
    memRead m a 4 =
      (memReadByte m (a + 3) ++ memReadByte m (a + 2) ++ memReadByte m (a + 1) ++ memReadByte m a).toNat := by
  simp only [memRead, toNat_append_eq]
  ring

/-- Settles O48, by the laws of MemWrite and MemRead at four bytes. -/
theorem packetFieldsAreLittleEndian : Obligations.PacketFieldsAreLittleEndian := by
  unfold Obligations.PacketFieldsAreLittleEndian
  intro m a v x h
  refine ⟨memWrite_wf h a 4 v, ?_, memRead_memWrite h a 4 v, memRead_four m a⟩
  rw [memReadByte_memWrite h, show (256 : Nat) = 2 ^ 8 by norm_num, ← pow_mul]

/-! ## Runs of bytes -/

theorem memWriteBytes_append (m : Memory) (a : Nat) (xs ys : List Byte) :
    memWriteBytes m a (xs ++ ys) = memWriteBytes (memWriteBytes m a xs) (a + xs.length) ys := by
  induction xs generalizing m a with
  | nil => rfl
  | cons x xs ih => rw [List.cons_append, memWriteBytes, ih, memWriteBytes, List.length_cons, Nat.add_right_comm,
      Nat.add_assoc]

/-- A 4-byte MemWrite writes the four bytes of the field. -/
theorem memWrite_four (m : Memory) (a : Nat) (w : Word32) : memWrite m a 4 w.toNat = memWriteBytes m a (fieldBytes w) := by
  have hbyte (i : Nat) : BitVec.ofNat 8 (w.toNat / 256 ^ i) = w.extractLsb' (8 * i) 8 := by
    rw [BitVec.extractLsb', Nat.shiftRight_eq_div_pow, pow_mul, show 2 ^ 8 = 256 from rfl]
  rw [memWrite_eq_memWriteBytes]
  simp only [hbyte]
  rfl

theorem memWriteWords_eq (m : Memory) (a : Nat) (ws : List Word32) :
    memWriteWords m a ws = memWriteBytes m a (ws.flatMap fieldBytes) := by
  induction ws generalizing m a with
  | nil => rfl
  | cons w ws ih => rw [memWriteWords, ih, memWrite_four, List.flatMap_cons, memWriteBytes_append]; rfl

theorem length_flatMap_fieldBytes (ws : List Word32) : (ws.flatMap fieldBytes).length = 4 * ws.length := by
  simp [List.length_flatMap, fieldBytes, mul_comm]

theorem getD_memBytes (m : Memory) (n i : Nat) : (memBytes m n).getD i 0 = if i < n then memReadByte m i else 0 := by
  rw [List.getD_eq_getElem?_getD]
  split
  next h => rw [getElem?_memBytes h, Option.getD_some]
  next h => rw [List.getElem?_eq_none (by simpa using h), Option.getD_none]

theorem memBytes_memWriteBytes {m : Memory} (h : m.wf = true) (bs : List Byte) :
    memBytes (memWriteBytes m 0 bs) bs.length = bs := by
  apply List.ext_getElem?
  intro i
  by_cases hi : i < bs.length
  · rw [getElem?_memBytes hi, memReadByte_memWriteBytes h, if_pos (by omega), List.getElem?_eq_getElem hi,
      List.getD_eq_getElem?_getD, Nat.sub_zero, List.getElem?_eq_getElem hi, Option.getD_some]
  · rw [List.getElem?_eq_none (by simpa using hi), List.getElem?_eq_none (by omega)]

/-! ## Bitfields -/

/-- The number whose bits below `n` are those of `f`. -/
def sumOfBits (f : Nat → Bool) (n : Nat) : Nat := ((List.range n).map fun i => if f i then 2 ^ i else 0).sum

theorem sumOfBits_succ (f : Nat → Bool) (n : Nat) :
    sumOfBits f (n + 1) = sumOfBits f n + if f n then 2 ^ n else 0 := by
  simp [sumOfBits, List.range_succ]

theorem sumOfBits_lt (f : Nat → Bool) (n : Nat) : sumOfBits f n < 2 ^ n := by
  induction n with
  | zero => simp [sumOfBits]
  | succ n ih =>
    rw [sumOfBits_succ, pow_succ]
    split <;> omega

theorem testBit_sumOfBits (f : Nat → Bool) (n i : Nat) : (sumOfBits f n).testBit i = (decide (i < n) && f i) := by
  induction n with
  | zero => simp [sumOfBits]
  | succ n ih =>
    have hlt := sumOfBits_lt f n
    rw [sumOfBits_succ]
    rcases lt_trichotomy i n with h | rfl | h
    · split
      · rw [add_comm, Nat.testBit_two_pow_add_gt h, ih]
        simp [h, Nat.lt_succ_of_lt h]
      · rw [Nat.add_zero, ih]
        simp [h, Nat.lt_succ_of_lt h]
    · split
      next hf => rw [add_comm, Nat.testBit_two_pow_add_eq, ih]; simp [hf]
      next hf => rw [Nat.add_zero, ih]; simp [hf]
    · have hsum : sumOfBits f n + (if f n then 2 ^ n else 0) < 2 ^ i :=
        calc _ < 2 ^ (n + 1) := by rw [← sumOfBits_succ]; exact sumOfBits_lt f (n + 1)
          _ ≤ 2 ^ i := Nat.pow_le_pow_right (by norm_num) h
      rw [Nat.testBit_lt_two_pow hsum]
      simp [show ¬ i < n + 1 by omega]

theorem getLsbD_bitfieldByte (items : List Bool) (b : Nat) {i : Nat} (hi : i < 8) :
    (bitfieldByte items b).getLsbD i = items.getD (8 * b + i) false := by
  rw [show bitfieldByte items b = BitVec.ofNat 8 (sumOfBits (fun i => items.getD (8 * b + i) false) 8) from rfl,
    BitVec.getLsbD_ofNat, testBit_sumOfBits]
  simp [hi]

@[simp] theorem length_bitfield (items : List Bool) : (bitfield items).length = ceilDiv items.length 8 := by
  simp [bitfield]

/-- Settles O34: a byte of a bitfield is the number of its eight items. -/
theorem bitfieldsHoldOneBitPerItem : Obligations.BitfieldsHoldOneBitPerItem := by
  unfold Obligations.BitfieldsHoldOneBitPerItem
  intro items
  refine ⟨length_bitfield items, fun b hb i hi => ?_⟩
  have hbyte : (bitfield items).getD b 0 = bitfieldByte items b := by
    rw [bitfield, List.getD_eq_getElem?_getD, List.getElem?_map, List.getElem?_range (by exact hb)]
    rfl
  rw [hbyte, getLsbD_bitfieldByte items b hi]

/-! ## The framer -/

theorem length_outboundPacket {s : State} (h : s.sized) : (outboundPacket s).length = exchangeLen s.cfg := by
  obtain ⟨hsp, -, hdo, -, -, hax⟩ := h
  have hle : txLen s.cfg ≤ exchangeLen s.cfg := le_max_left _ _
  have hfw : (s.axes.flatMap fun a => fieldBytes (freqWord s.cfg a.freqCmd)).length = 4 * s.cfg.J := by
    rw [← List.flatMap_map, length_flatMap_fieldBytes, List.length_map, hax]
  simp only [outboundPacket, List.length_append, hfw, length_flatMap_fieldBytes, length_bitfield, List.length_map,
    List.length_replicate, hsp, hdo, hax]
  rw [txLen] at hle ⊢
  simp only [fieldBytes, List.length_cons, List.length_nil]
  omega

/-- BuildTx writes the outbound packet as one run of bytes from offset 0: each field starts where the one before ends. -/
theorem buildTx_txbuf {s : State} (h : s.sized) : (buildTx s).txbuf = memWriteBytes s.txbuf 0 (outboundPacket s) := by
  obtain ⟨hsp, -, hdo, -, -, hax⟩ := h
  have htag : (fieldBytes s.cfg.tagWrite).length = 4 := rfl
  simp only [buildTx, outboundPacket, memWrite_four, memWriteWords_eq, memWriteBytes_append, List.flatMap_map,
    List.length_append, length_bitfield, List.length_map, hsp, hdo, hax, htag, length_flatMap_fieldBytes]
  have hfw : (s.axes.flatMap fun a => fieldBytes (freqWord s.cfg a.freqCmd)).length = 4 * s.cfg.J := by
    rw [← List.flatMap_map, length_flatMap_fieldBytes, List.length_map, hax]
  simp only [hfw, offFw, offEn, offSp, offDo, txLen, Nat.zero_add]

theorem buildTx_within {s : State} (h : s.sized) (htx : s.txbuf.within (exchangeLen s.cfg) = true) :
    (buildTx s).txbuf.within (exchangeLen s.cfg) = true := by
  rw [buildTx_txbuf h]
  exact memWriteBytes_within htx (by rw [length_outboundPacket h, Nat.zero_add])

/-- The packet that LINK_WRITE builds, before any handshake. -/
theorem prepareLink_txbuf {s : State} (h : s.sized) :
    (prepareLink s).txbuf = memWriteBytes s.txbuf 0 (outboundPacket s) :=
  buildTx_txbuf (s := { s with rxFresh := false, hwResetOut := s.hwResetIn }) h

/-- Settles O33: nothing after the framer writes TXBUF, and the packet is L bytes long. -/
theorem txbufHoldsTheOutboundPacket : Obligations.TxbufHoldsTheOutboundPacket := by
  unfold Obligations.TxbufHoldsTheOutboundPacket
  intro s t hs hm h
  rcases exec_linkWrite_cases h with ⟨hc, -⟩ | ⟨-, rfl⟩
  · simp [hm] at hc
  · have hlen := length_outboundPacket hs.sizes
    rw [recordReset_txbuf, handshake_txbuf, prepareLink_txbuf hs.sizes]
    refine ⟨by rw [← hlen, memBytes_memWriteBytes hs.tx.1], fun a ha => ?_⟩
    rw [memReadByte_memWriteBytes hs.tx.1, if_neg (by omega)]

/-! ## The serial transport -/

/-- An observer samples one bit for each bit that is driven. -/
theorem mosiSamples_serialBitEvents (b : Bool) (bits : List Bool) : mosiSamples b (bits.flatMap serialBitEvents) = bits := by
  induction bits generalizing b with
  | nil => rfl
  | cons bit bits ih => exact congrArg (bit :: ·) (ih bit)

theorem mosiSamples_streamEvents (b : Bool) (tx : List Byte) :
    mosiSamples b (streamEvents .byteSerial tx) = tx.flatMap serialBits := by
  rw [streamEvents, ← List.flatMap_assoc, mosiSamples_serialBitEvents]

@[simp] theorem length_serialBits (b : Byte) : (serialBits b).length = 8 := rfl

theorem getElem?_serialBits (b : Byte) {k : Nat} (h : k < 8) : (serialBits b)[k]? = some (b.getLsbD (7 - k)) := by
  interval_cases k <;> rfl

/-- The entry of a concatenation of pieces of one length. -/
theorem getElem?_flatMap {α β : Type} {f : α → List β} {n : Nat} (hf : ∀ x, (f x).length = n) (l : List α) (i : Nat)
    {k : Nat} (hk : k < n) : (l.flatMap f)[n * i + k]? = l[i]?.bind fun x => (f x)[k]? := by
  induction l generalizing i with
  | nil => simp
  | cons x l ih =>
    rw [List.flatMap_cons]
    cases i with
    | zero => rw [List.getElem?_append_left (by rw [hf]; omega)]; simp
    | succ i =>
      rw [List.getElem?_append_right (by rw [hf, Nat.mul_succ]; omega), hf,
        show n * (i + 1) + k - n = n * i + k by rw [Nat.mul_succ]; omega, ih]
      rfl

/-- The captured byte is the one whose bits were sent, most significant first. -/
theorem serialAssemble_serialBits (b : Byte) : serialAssemble (serialBits b) = b := by
  revert b
  decide

/-! ## The parallel transport -/

theorem wdoSamples_beatEvents (w : Word32) (ws : List Word32) : wdoSamples w (ws.flatMap beatEvents) = ws := by
  induction ws generalizing w with
  | nil => rfl
  | cons v ws ih => exact congrArg (v :: ·) (ih v)

theorem getLsbD_beatWord (b0 b1 b2 b3 : Byte) (i : Nat) :
    (beatWord b0 b1 b2 b3).getLsbD i =
      if i < 8 then b0.getLsbD i
      else if i - 8 < 8 then b1.getLsbD (i - 8)
      else if i - 8 - 8 < 8 then b2.getLsbD (i - 8 - 8)
      else b3.getLsbD (i - 8 - 8 - 8) := by
  unfold beatWord
  rw [BitVec.getLsbD_append, BitVec.getLsbD_append, BitVec.getLsbD_append]

/-- The byte lanes of a beat are its four bytes, the first one in the low bits. -/
theorem extractLsb'_beatWord (b0 b1 b2 b3 : Byte) {k : Nat} (h : k < 4) :
    (beatWord b0 b1 b2 b3).extractLsb' (8 * k) 8 = [b0, b1, b2, b3].getD k 0 := by
  apply BitVec.eq_of_getLsbD_eq
  intro i hi
  rw [BitVec.getLsbD_extractLsb', getLsbD_beatWord, decide_eq_true hi, Bool.true_and]
  interval_cases k
  · rw [if_pos (by omega), Nat.mul_zero, Nat.zero_add]
    rfl
  · rw [if_neg (by omega), if_pos (by omega), show 8 * 1 + i - 8 = i by omega]
    rfl
  · rw [if_neg (by omega), if_neg (by omega), if_pos (by omega), show 8 * 2 + i - 8 - 8 = i by omega]
    rfl
  · rw [if_neg (by omega), if_neg (by omega), if_neg (by omega), show 8 * 3 + i - 8 - 8 - 8 = i by omega]
    rfl

theorem beatBytes_beatWord (b0 b1 b2 b3 : Byte) : beatBytes (beatWord b0 b1 b2 b3) = [b0, b1, b2, b3] := by
  have lane := fun k (hk : k < 4) => extractLsb'_beatWord b0 b1 b2 b3 hk
  rw [beatBytes]
  exact congr (congrArg _ (lane 0 (by omega))) (congr (congrArg _ (lane 1 (by omega)))
    (congr (congrArg _ (lane 2 (by omega))) (congrArg (· :: []) (lane 3 (by omega)))))

theorem length_streamBeats (tx : List Byte) : (streamBeats tx).length = (tx.length + 3) / 4 := by
  induction tx using streamBeats.induct with
  | case5 b0 b1 b2 b3 rest ih =>
    simp only [streamBeats, List.length_cons, ih]
    omega
  | _ => simp [streamBeats]

/-- Lane `k` of beat `i` is the byte at offset 4 * i + k, and 0 past the stream. -/
theorem extractLsb'_streamBeats (tx : List Byte) (i : Nat) {k : Nat} (h : k < 4) :
    ((streamBeats tx).getD i 0).extractLsb' (8 * k) 8 = tx.getD (4 * i + k) 0 := by
  induction tx using streamBeats.induct generalizing i with
  | case1 => simp [streamBeats]
  | case5 b0 b1 b2 b3 rest ih =>
    rw [streamBeats]
    cases i with
    | zero =>
      rw [List.getD_cons_zero, extractLsb'_beatWord _ _ _ _ h, Nat.mul_zero, Nat.zero_add]
      interval_cases k <;> rfl
    | succ i =>
      rw [List.getD_cons_succ, ih, show 4 * (i + 1) + k = 4 * i + k + 1 + 1 + 1 + 1 by omega]
      rfl
  | case2 | case3 | case4 =>
    rw [streamBeats]
    cases i with
    | zero =>
      rw [List.getD_cons_zero, extractLsb'_beatWord _ _ _ _ h, Nat.mul_zero, Nat.zero_add]
      interval_cases k <;> rfl
    | succ i => simp [List.getD_eq_getElem?_getD, show 4 * (i + 1) + k = 4 * i + k + 1 + 1 + 1 + 1 by omega]

/-- The bytes of the beats are the stream and the padding of the last beat. -/
theorem take_flatMap_streamBeats (rx : List Byte) : ((streamBeats rx).flatMap beatBytes).take rx.length = rx := by
  induction rx using streamBeats.induct with
  | case5 b0 b1 b2 b3 rest ih =>
    rw [streamBeats, List.flatMap_cons, beatBytes_beatWord]
    simpa using ih
  | _ => simp [streamBeats, beatBytes_beatWord]

/-- What the core captures is what the remote end sent, on either transport. -/
theorem captureStream_eq (t : Transport) (rx : List Byte) : captureStream t rx = rx := by
  cases t with
  | byteSerial => simp [captureStream, serialAssemble_serialBits]
  | wordParallel => exact take_flatMap_streamBeats rx

/-- Settles O42, by the round trip of one byte on the serial line and of the beats on the parallel one. -/
theorem bothTransportsCaptureTheStream : Obligations.BothTransportsCaptureTheStream := by
  unfold Obligations.BothTransportsCaptureTheStream
  exact captureStream_eq

end Sys2Proof.Machine
end

section
/-! PROOFS of LINK_WRITE. The operation either makes no exchange and leaves the link as it was, or makes one attempt, whose
outcome is Active with fresh data or Fault with one error; the statements about the handshake, the answers, the frame and
the recovery read off these two cases. -/

namespace Sys2Proof.Machine

/-! ## When an exchange is attempted -/

theorem attempts_iff (s : State) :
    attempts s = true ↔
      s.linkEnable = true ∧ ((s.linkReset = true ∧ s.prevReset = false) ∨ s.linkStatus = true) := by
  simp [attempts, resetEdge]

theorem attempts_of_enabled {s : State} (he : s.linkEnable = true)
    (hs : s.linkStatus = true ∨ (s.linkReset = true ∧ s.prevReset = false)) : attempts s = true :=
  (attempts_iff s).mpr ⟨he, hs.symm⟩

theorem attempts_of_stopped {s : State} (hs : s.linkStatus = false) (hedge : ¬ (s.linkReset = true ∧ s.prevReset = false)) :
    attempts s = false := by
  rw [Bool.eq_false_iff, Ne, attempts_iff]
  rintro ⟨-, h | h⟩
  · exact hedge h
  · simp [hs] at h

@[simp] theorem attempts_prepareLink (s : State) : attempts (prepareLink s) = attempts s := rfl

theorem exec_linkWrite_of_run {s : State} (hm : s.coreMode = .run) :
    exec .linkWrite s = .next (recordReset (handshake (prepareLink s))) := if_neg (by simp [hm])

theorem handshake_of_attempts {s : State} (h : attempts s = true) : handshake s = attemptExchange s := by
  rw [handshake, ((attempts_iff s).mp h).1, h]
  rfl

/-- HS_STATE after a handshake without an exchange (42_link_write.md R125). -/
def idleHsState (s : State) : HsState :=
  if s.linkEnable = false then .disabled else if s.hsState = .disabled then .armed else s.hsState

/-- The handshake without an exchange writes LINK_STATUS and HS_STATE alone. -/
theorem handshake_of_not_attempts {s : State} (h : attempts s = false) :
    handshake s = { s with linkStatus := false, hsState := idleHsState s } := by
  rcases handshake_cases s with ⟨he, hs⟩ | ⟨-, ha, -⟩ | ⟨he, -, hh, hs⟩ | ⟨he, -, hh, hs⟩
  · rw [hs, idleHsState, if_pos he]
  · simp [h] at ha
  all_goals
    have hstatus : s.linkStatus = false :=
      Bool.eq_false_iff.mpr fun htrue => absurd (attempts_of_enabled he (.inl htrue)) (by simp [h])
    rw [hs, idleHsState, if_neg (by simp [he])]
  · rw [if_pos hh, ← hstatus]
  · rw [if_neg hh, ← hstatus]

/-! ## The outcome of an attempt -/

@[simp] theorem exchange_link (s : State) :
    (exchange s).2.link = linkAfterExchange s.cfg.transport (memBytes s.txbuf (exchangeLen s.cfg)) s.link := by
  unfold exchange
  split <;> rfl

@[simp] theorem attemptExchange_link (s : State) :
    (attemptExchange s).link = linkAfterExchange s.cfg.transport (memBytes s.txbuf (exchangeLen s.cfg)) s.link := by
  simp [attemptExchange]

/-- Active, with the data of this tick fresh. -/
def receivedData (s t : State) : Prop :=
  t.hsState = .active ∧ t.linkStatus = true ∧ t.rxFresh = true ∧ t.lastRxTag = s.cfg.tagData ∧ t.err = s.err

/-- Fault, with exactly one of the three errors of the link. -/
def linkFailed (s t : State) : Prop :=
  t.hsState = .fault ∧ t.linkStatus = false ∧ t.rxFresh = s.rxFresh ∧
    (t.err = s.err ||| 0x80 ∨ t.err = s.err ||| 0x100 ∨ t.err = s.err ||| 0x200)

theorem classify_outcome (b : Bool) (s : State) : receivedData s (classify b s) ∨ linkFailed s (classify b s) := by
  rcases classify_cases b s with ⟨-, h⟩ | ⟨-, htag, h⟩ | ⟨-, -, -, h⟩ | ⟨-, -, -, h⟩ <;> rw [h]
  · exact .inr ⟨rfl, rfl, rfl, .inr (.inr rfl)⟩
  · exact .inl ⟨rfl, rfl, rfl, htag, rfl⟩
  · exact .inr ⟨rfl, rfl, rfl, .inl rfl⟩
  · exact .inr ⟨rfl, rfl, rfl, .inr (.inl rfl)⟩

theorem attemptExchange_outcome (s : State) :
    receivedData s (attemptExchange s) ∨ linkFailed s (attemptExchange s) := by
  simpa [attemptExchange, receivedData, linkFailed] using
    classify_outcome (exchange { s with attemptCount := s.attemptCount + 1 }).1.isAbort
      (exchange { s with attemptCount := s.attemptCount + 1 }).2

/-! ## LINK_WRITE in RUN mode -/

/-- LINK_WRITE without an exchange. -/
def withoutExchange (s : State) : State :=
  recordReset { prepareLink s with linkStatus := false, hsState := idleHsState s }

/-- LINK_WRITE with an exchange. -/
def withExchange (s : State) : State := recordReset (attemptExchange (prepareLink s))

/-- What LINK_WRITE can do in RUN mode. -/
theorem exec_linkWrite_run_cases {s t : State} (hm : s.coreMode = .run) (h : exec .linkWrite s = .next t) :
    (attempts s = false ∧ t = withoutExchange s) ∨ (attempts s = true ∧ t = withExchange s) := by
  rw [exec_linkWrite_of_run hm] at h
  cases h
  cases ha : attempts s
  · exact .inl ⟨rfl, by rw [handshake_of_not_attempts (by simpa using ha)]; rfl⟩
  · exact .inr ⟨rfl, by rw [handshake_of_attempts (by simpa using ha)]; rfl⟩

theorem eq_withExchange_of_exec {s t : State} (hm : s.coreMode = .run) (ha : attempts s = true)
    (h : exec .linkWrite s = .next t) : t = withExchange s := by
  rcases exec_linkWrite_run_cases hm h with ⟨hno, -⟩ | ⟨-, ht⟩
  · exact absurd hno (by simp [ha])
  · exact ht

theorem withExchange_link (s : State) :
    (withExchange s).link =
      linkAfterExchange s.cfg.transport (memBytes (prepareLink s).txbuf (exchangeLen s.cfg)) s.link := by
  simp [withExchange]

/-- LINK_WRITE clears RX_FRESH before the handshake, so that it is 0 after an exchange that failed. -/
theorem withExchange_outcome (s : State) :
    receivedData s (withExchange s) ∨ linkFailed { s with rxFresh := false } (withExchange s) :=
  attemptExchange_outcome (prepareLink s)

/-- Settles O32: what an attempt and the handshake leave unchanged, and the count of attempts in each case. -/
theorem linkWriteCompletes : Obligations.LinkWriteCompletes := by
  unfold Obligations.LinkWriteCompletes
  intro s hm
  refine ⟨_, exec_linkWrite_of_run hm, by simp, by simp, ?_, by simp⟩
  rw [if_congr (attempts_iff s).symm rfl rfl]
  cases ha : attempts s
  · rw [handshake_of_not_attempts (by simpa using ha)]
    rfl
  · rw [handshake_of_attempts (by simpa using ha)]
    simp

/-- Settles O36: the rows without an exchange are `idleHsState`, and those with one end in Active or in Fault. -/
theorem handshakeFollowsItsTable : Obligations.HandshakeFollowsItsTable := by
  unfold Obligations.HandshakeFollowsItsTable
  intro s t _ hm h
  rcases exec_linkWrite_run_cases hm h with ⟨ha, rfl⟩ | ⟨ha, rfl⟩
  · refine ⟨fun he => ?_, fun he _ _ => ?_, fun he hs => ?_⟩
    · exact ⟨if_pos he, rfl, rfl, rfl, rfl, rfl, rfl⟩
    · exact ⟨if_neg (by simp [he]), rfl, rfl, rfl, rfl, rfl, rfl⟩
    · exact absurd (attempts_of_enabled he hs) (by simp [ha])
  · refine ⟨fun he => ?_, fun _ hs hedge => ?_, fun _ _ => ⟨?_, ?_⟩⟩
    · exact absurd ((attempts_iff s).mp ha).1 (by simp [he])
    · exact absurd (attempts_of_stopped hs hedge) (by simp [ha])
    · rw [withExchange_link]
      rfl
    · exact (withExchange_outcome s).imp (fun ⟨hh, hs, _⟩ => ⟨hh, hs⟩) fun ⟨hh, hs, _⟩ => ⟨hh, hs⟩

/-- Settles O38: without an exchange LINK_STATUS is 0 and the counter stays; with one the outcome is one of the two. -/
theorem statusMeansDataThisTick : Obligations.StatusMeansDataThisTick := by
  unfold Obligations.StatusMeansDataThisTick
  intro s t hm h
  rcases exec_linkWrite_run_cases hm h with ⟨-, rfl⟩ | ⟨ha, rfl⟩
  · refine ⟨fun hs => absurd (show false = true from hs) Bool.false_ne_true, fun _ => rfl, fun hcount => ?_⟩
    have hsame : (withoutExchange s).link.exchanges = s.link.exchanges := rfl
    omega
  · have he : s.linkEnable = true := ((attempts_iff s).mp ha).1
    have hcount : (withExchange s).link.exchanges = s.link.exchanges + 1 := by rw [withExchange_link]; rfl
    rcases withExchange_outcome s with ⟨hh, hs, hfresh, htag, herr⟩ | ⟨hh, hs, hfresh, herr⟩
    · exact ⟨fun _ => ⟨he, hcount, htag, hfresh, hh, herr⟩, fun hf => by simp [he] at hf, fun _ hf => by simp [hs] at hf⟩
    · exact ⟨fun hf => by simp [hs] at hf, fun _ => hs, fun _ _ => ⟨hh, hfresh, herr⟩⟩

/-! ## The answer -/

/-- A listed answer of L bytes leaves no free byte. -/
theorem remoteStream_of_length {rx : List Byte} {n : Nat} (index : Nat) (h : rx.length = n) :
    remoteStream index n rx = rx := by
  apply List.ext_getElem
  · simp [remoteStream, h]
  · intro i _ hi
    simp [remoteStream, hi]

theorem remoteAnswer_of_abort {link : LinkPort} {rest : List RemoteAnswer} (h : link.answers = .abort :: rest) (n : Nat) :
    remoteAnswer link n = .abort := by
  rw [remoteAnswer, h]

theorem remoteAnswer_of_complete {link : LinkPort} {rx : List Byte} {rest : List RemoteAnswer} {n : Nat}
    (h : link.answers = .complete rx :: rest) (hlen : rx.length = n) : remoteAnswer link n = .complete rx := by
  rw [remoteAnswer, h]
  exact congrArg _ (remoteStream_of_length _ hlen)

/-- An attempt that is aborted. -/
theorem attemptExchange_of_abort {s : State} (h : remoteAnswer s.link (exchangeLen s.cfg) = .abort) :
    attemptExchange s = linkFault .xferFail (driveExchange { s with attemptCount := s.attemptCount + 1 }) := by
  simp only [attemptExchange, exchange, h]
  rfl

/-- The state in which a complete answer is classified: RXBUF holds it, and nothing of what it held before. -/
def afterAnswer (rx : List Byte) (s : State) : State :=
  { driveExchange { s with attemptCount := s.attemptCount + 1 } with rxbuf := memWriteBytes [] 0 rx }

@[simp] theorem afterAnswer_cfg (rx : List Byte) (s : State) : (afterAnswer rx s).cfg = s.cfg := rfl
@[simp] theorem afterAnswer_err (rx : List Byte) (s : State) : (afterAnswer rx s).err = s.err := rfl
@[simp] theorem afterAnswer_rxFresh (rx : List Byte) (s : State) : (afterAnswer rx s).rxFresh = s.rxFresh := rfl
@[simp] theorem afterAnswer_rxbuf (rx : List Byte) (s : State) :
    (afterAnswer rx s).rxbuf = memWriteBytes [] 0 rx := rfl

theorem attemptExchange_of_complete {s : State} {rx : List Byte}
    (h : remoteAnswer s.link (exchangeLen s.cfg) = .complete rx) :
    attemptExchange s = classify false (afterAnswer rx s) := by
  simp only [attemptExchange, exchange, h, captureStream_eq]
  rfl

/-- The tag is the first field of the answer. -/
theorem rxTag_of_rxbuf {s : State} {b0 b1 b2 b3 : Byte} {bs : List Byte}
    (h : s.rxbuf = memWriteBytes [] 0 (b0 :: b1 :: b2 :: b3 :: bs)) : rxTag s = b3 ++ b2 ++ b1 ++ b0 := by
  have hbyte (i : Nat) (hi : i < 4) :
      memReadByte s.rxbuf (0 + i) = (b0 :: b1 :: b2 :: b3 :: bs).getD i 0 := by
    rw [h, memReadByte_memWriteBytes wf_nil, if_pos (by simp; omega), Nat.zero_add, Nat.sub_zero]
  rw [rxTag, memRead_four, hbyte 3 (by omega), hbyte 2 (by omega), hbyte 1 (by omega), ← Nat.add_zero 0,
    hbyte 0 (by omega)]
  exact BitVec.ofNat_toNat _ _

/-- The classification of a complete answer. -/
theorem classify_complete (s : State) :
    (classify false s).lastRxTag = rxTag s ∧
      if rxTag s = s.cfg.tagData then
        (classify false s).linkStatus = true ∧ (classify false s).hsState = .active ∧
          (classify false s).rxFresh = true ∧ (classify false s).err = s.err
      else
        (classify false s).linkStatus = false ∧ (classify false s).hsState = .fault ∧
          (classify false s).rxFresh = s.rxFresh ∧
          (classify false s).err = s.err ||| (if rxTag s = s.cfg.tagEstop then 0x80 else 0x100) := by
  rcases classify_cases false s with ⟨hf, -⟩ | ⟨-, hdata, h⟩ | ⟨-, hdata, hestop, h⟩ | ⟨-, hdata, hestop, h⟩
  · cases hf
  · rw [h, if_pos hdata]
    exact ⟨rfl, rfl, rfl, rfl, rfl⟩
  · rw [h, if_neg hdata, if_pos hestop]
    exact ⟨rfl, rfl, rfl, rfl, rfl⟩
  · rw [h, if_neg hdata, if_neg hestop]
    exact ⟨rfl, rfl, rfl, rfl, rfl⟩

/-- Settles O37: the two answers lead to the two forms of an attempt. -/
theorem answersAreClassified : Obligations.AnswersAreClassified := by
  unfold Obligations.AnswersAreClassified
  intro s t rest hm he hs h
  obtain rfl := eq_withExchange_of_exec hm (attempts_of_enabled he hs) h
  have hanswers : (withExchange s).link.answers = s.link.answers.tail := by rw [withExchange_link]; rfl
  refine ⟨fun habort => ?_, fun b0 b1 b2 b3 bs hcomplete hlen => ?_⟩
  · have hattempt := attemptExchange_of_abort (s := prepareLink s) (remoteAnswer_of_abort habort _)
    rw [hanswers, habort, withExchange, hattempt]
    exact ⟨rfl, rfl, rfl, rfl, rfl, rfl, rfl⟩
  · have hattempt := attemptExchange_of_complete (s := prepareLink s)
      (remoteAnswer_of_complete hcomplete (by simpa using hlen))
    obtain ⟨htag, hclass⟩ := classify_complete (afterAnswer (b0 :: b1 :: b2 :: b3 :: bs) (prepareLink s))
    rw [hanswers, hcomplete, withExchange, hattempt]
    simp only [recordReset_rxbuf, recordReset_lastRxTag, recordReset_linkStatus, recordReset_hsState,
      recordReset_rxFresh, recordReset_err, classify_rxbuf, afterAnswer_rxbuf, htag, List.tail_cons, true_and]
    refine ⟨?_, rxTag_of_rxbuf (afterAnswer_rxbuf _ _), hclass⟩
    rw [← hlen]
    exact memBytes_memWriteBytes wf_nil (b0 :: b1 :: b2 :: b3 :: bs)

/-! ## The frame -/

/-- Settles O41: the body is the stream of TXBUF, and what an observer samples of it is the stream again. -/
theorem theFrameCarriesTxbuf : Obligations.TheFrameCarriesTxbuf := by
  unfold Obligations.TheFrameCarriesTxbuf
  intro s t b w hm he hs h
  obtain rfl := eq_withExchange_of_exec hm (attempts_of_enabled he hs) h
  have htx : (withExchange s).txbuf = (prepareLink s).txbuf := by simp [withExchange]
  obtain ⟨hcs, hclk, hstb, -, -, hframes⟩ :=
    linkAfterExchange_idle s.cfg.transport (memBytes (prepareLink s).txbuf (exchangeLen s.cfg)) s.link
  rw [← withExchange_link] at hcs hclk hstb hframes
  rw [← htx] at hframes
  refine ⟨streamEvents s.cfg.transport (memBytes (withExchange s).txbuf (exchangeLen s.cfg)), hframes, hcs, hclk, hstb, ?_⟩
  split
  next htransport =>
    rw [htransport, mosiSamples_streamEvents]
    refine ⟨by simp [List.length_flatMap, mul_comm], fun i hi k hk => ?_⟩
    rw [getElem?_flatMap length_serialBits _ _ hk, getElem?_memBytes hi]
    exact getElem?_serialBits _ hk
  next htransport =>
    rw [htransport, streamEvents, wdoSamples_beatEvents, length_streamBeats, length_memBytes]
    refine ⟨rfl, fun i _ k hk => ?_⟩
    rw [extractLsb'_streamBeats _ _ hk, getD_memBytes]

/-! ## No exchange without an edge -/

/-- The operation leaves the link and its count of attempts as they were. -/
def sameLink (s t : State) : Prop :=
  t.linkStatus = s.linkStatus ∧ t.link = s.link ∧ t.attemptCount = s.attemptCount ∧ t.rxbuf = s.rxbuf

theorem writeMapped_sameLink (r : Reg) (d : FxWord) (s : State) :
    sameLink s (writeMapped r d s) ∧ (writeMapped r d s).prevReset = s.prevReset := by
  rcases writeMapped_cases r d s with ⟨-, hw⟩ | ⟨-, -, hw⟩ | ⟨-, -, hw⟩ | ⟨-, hw⟩ | ⟨-, hw⟩ <;>
    simp [hw, sameLink]

/-- No other operation touches the link, the flags of the handshake or RXBUF. -/
theorem exec_sameLink {i : Instr} {s t : State} (hi : i ≠ .linkWrite) (h : exec i s = .next t) :
    sameLink s t ∧ t.prevReset = s.prevReset := by
  cases i with
  | nop =>
    rw [exec_nop_cases h]
    exact ⟨⟨rfl, rfl, rfl, rfl⟩, rfl⟩
  | init => rcases exec_init_cases h with ⟨-, rfl⟩ | ⟨-, -, rfl⟩ | ⟨-, -, rfl⟩ <;> exact ⟨⟨rfl, rfl, rfl, rfl⟩, rfl⟩
  | cmdgen period =>
    rcases exec_cmdgen_cases h with ⟨-, rfl⟩ | ⟨-, -, rfl⟩ | ⟨-, -, -, rfl⟩ <;> simp [sameLink]
  | linkWrite => exact absurd rfl hi
  | linkRead =>
    rcases exec_linkRead_cases h with ⟨-, rfl⟩ | ⟨-, -, rfl⟩ | ⟨-, -, -, rfl⟩ <;> exact ⟨⟨rfl, rfl, rfl, rfl⟩, rfl⟩
  | regWrite a d =>
    rcases exec_regWrite_cases h with ⟨-, rfl⟩ | ⟨r, -, rfl⟩
    · exact ⟨⟨rfl, rfl, rfl, rfl⟩, rfl⟩
    · exact writeMapped_sameLink r d s
  | regRead a => rcases exec_regRead_cases h with ⟨-, rfl⟩ | ⟨r, -, rfl⟩ <;> exact ⟨⟨rfl, rfl, rfl, rfl⟩, rfl⟩

theorem writeReg_linkReset {r : Reg} (h : r ≠ .global .linkReset) (s : State) (d : FxWord) :
    (writeReg s d r).linkReset = s.linkReset := by
  cases r with
  | global g =>
    cases g with
    | linkReset => exact absurd rfl h
    | _ => rfl
  | _ => rfl

/-- LINK_RESET changes by a REG_WRITE to its address alone. -/
theorem exec_linkReset {i : Instr} {s t : State} (h : exec i s = .next t) :
    t.linkReset = s.linkReset ∨ ∃ d, i = .regWrite 0x0003 d ∧ t.linkReset = d.getLsbD 0 := by
  cases i with
  | nop => exact .inl (by rw [exec_nop_cases h])
  | init => rcases exec_init_cases h with ⟨-, rfl⟩ | ⟨-, -, rfl⟩ | ⟨-, -, rfl⟩ <;> exact .inl rfl
  | cmdgen period =>
    rcases exec_cmdgen_cases h with ⟨-, rfl⟩ | ⟨-, -, rfl⟩ | ⟨-, -, -, rfl⟩ <;> exact .inl (by simp)
  | linkWrite => rcases exec_linkWrite_cases h with ⟨-, rfl⟩ | ⟨-, rfl⟩ <;> exact .inl (by simp)
  | linkRead => rcases exec_linkRead_cases h with ⟨-, rfl⟩ | ⟨-, -, rfl⟩ | ⟨-, -, -, rfl⟩ <;> exact .inl rfl
  | regWrite a d =>
    rcases exec_regWrite_cases h with ⟨-, rfl⟩ | ⟨r, hr, rfl⟩
    · exact .inl rfl
    · by_cases hne : r = .global .linkReset
      · obtain ⟨-, ha⟩ := mapped_and_regAddress_of_regAt hr
        subst hne
        exact .inr ⟨d, by rw [← ha]; rfl, rfl⟩
      · rcases writeMapped_cases r d s with ⟨-, hw⟩ | ⟨-, -, hw⟩ | ⟨-, -, hw⟩ | ⟨-, hw⟩ | ⟨-, hw⟩ <;>
          exact .inl (by simp [hw, writeReg_linkReset hne])
  | regRead a => rcases exec_regRead_cases h with ⟨-, rfl⟩ | ⟨r, -, rfl⟩ <;> exact .inl rfl

/-- A LINK_WRITE that attempts nothing leaves a stopped link as it was. -/
theorem exec_linkWrite_sameLink {s t : State} (hs : s.linkStatus = false)
    (hno : s.coreMode = .run → attempts s = false) (h : exec .linkWrite s = .next t) : sameLink s t := by
  rcases exec_linkWrite_cases h with ⟨-, rfl⟩ | ⟨hm, -⟩
  · exact ⟨rfl, rfl, rfl, rfl⟩
  · rcases exec_linkWrite_run_cases hm h with ⟨-, rfl⟩ | ⟨ha, -⟩
    · exact ⟨hs.symm, rfl, rfl, rfl⟩
    · exact absurd (hno hm) (by simp [ha])

theorem exec_linkWrite_prevReset {s t : State} (h : exec .linkWrite s = .next t) :
    t.prevReset = s.prevReset ∨ t.prevReset = t.linkReset := by
  rcases exec_linkWrite_cases h with ⟨-, rfl⟩ | ⟨-, rfl⟩
  · exact .inl rfl
  · exact .inr rfl

/-- One operation from a stopped link with no edge to see. -/
theorem exec_keeps_stopped {i : Instr} {s t : State} (hs : s.linkStatus = false)
    (hedge : ¬ (s.linkReset = true ∧ s.prevReset = false))
    (hi : ∀ d, i = .regWrite 0x0003 d → d.getLsbD 0 = false) (h : exec i s = .next t) :
    sameLink s t ∧ ¬ (t.linkReset = true ∧ t.prevReset = false) := by
  have hreset : t.linkReset = s.linkReset ∨ t.linkReset = false :=
    (exec_linkReset h).imp id fun ⟨d, hd, ht⟩ => ht.trans (hi d hd)
  by_cases hlw : i = .linkWrite
  · subst hlw
    refine ⟨exec_linkWrite_sameLink hs (fun _ => attempts_of_stopped hs hedge) h, fun ⟨h1, h0⟩ => ?_⟩
    rcases exec_linkWrite_prevReset h with hp | hp
    · rcases hreset with hr | hr
      · exact hedge ⟨hr ▸ h1, hp ▸ h0⟩
      · simp [hr] at h1
    · simp [h1, h0] at hp
  · obtain ⟨hsame, hp⟩ := exec_sameLink hlw h
    refine ⟨hsame, fun ⟨h1, h0⟩ => ?_⟩
    rcases hreset with hr | hr
    · exact hedge ⟨hr ▸ h1, hp ▸ h0⟩
    · simp [hr] at h1

theorem execAll_cons {i : Instr} {s t : State} (h : exec i s = .next t) (is : List Instr) :
    execAll (i :: is) s = execAll is t := by
  rw [execAll, h]

theorem execAll_cons_next {i : Instr} {is : List Instr} {s t : State} (h : execAll (i :: is) s = .next t) :
    ∃ u, exec i s = .next u ∧ execAll is u = .next t := by
  rw [execAll] at h
  split at h
  next u hu => exact ⟨u, hu, h⟩
  all_goals cases h

/-- A sequence whose LINK_WRITEs see no edge, by induction on it: the link stays stopped at each operation. -/
theorem execAll_sameLink {is : List Instr} {s t : State} (hs : s.linkStatus = false)
    (hno : ∀ before after u, is = before ++ .linkWrite :: after → execAll before s = .next u →
      ¬ (u.coreMode = .run ∧ u.linkEnable = true ∧ u.linkReset = true ∧ u.prevReset = false))
    (h : execAll is s = .next t) : sameLink s t := by
  induction is generalizing s with
  | nil =>
    cases h
    exact ⟨rfl, rfl, rfl, rfl⟩
  | cons i is ih =>
    obtain ⟨u, hu, htail⟩ := execAll_cons_next h
    have hsame : sameLink s u := by
      by_cases hlw : i = .linkWrite
      · subst hlw
        refine exec_linkWrite_sameLink hs (fun hm => ?_) hu
        rw [Bool.eq_false_iff, Ne, attempts_iff]
        rintro ⟨he, ⟨hr, hp⟩ | hstatus⟩
        · exact hno [] is s rfl rfl ⟨hm, he, hr, hp⟩
        · simp [hs] at hstatus
      · exact (exec_sameLink hlw hu).1
    obtain ⟨hstatus, hlink, hcount, hrx⟩ := hsame
    obtain ⟨hstatus', hlink', hcount', hrx'⟩ := ih (hstatus.trans hs)
      (fun before after v heq hv => hno (i :: before) after v (by rw [heq]; rfl) (by rw [execAll_cons hu, hv])) htail
    exact ⟨hstatus'.trans hstatus, hlink'.trans hlink, hcount'.trans hcount, hrx'.trans hrx⟩

/-- Settles O39: one operation, and any sequence of them. -/
theorem noExchangeWithoutAResetEdge : Obligations.NoExchangeWithoutAResetEdge := by
  unfold Obligations.NoExchangeWithoutAResetEdge
  constructor
  · intro i s t hs hedge hi h
    obtain ⟨⟨hstatus, hlink, hcount, hrx⟩, hkept⟩ := exec_keeps_stopped hs hedge hi h
    exact ⟨hstatus.trans hs, hkept, hlink, hcount, hrx⟩
  · intro is s t hs hno h
    obtain ⟨hstatus, hlink, hcount, hrx⟩ := execAll_sameLink hs hno h
    exact ⟨hstatus.trans hs, hlink, hcount, hrx⟩

/-! ## Recovery -/

/-- What a REG_WRITE of LINK_RESET stores. -/
def withLinkReset (b : Bool) (s : State) : State := { s with linkReset := b }

theorem exec_regWrite_linkReset {s : State} (hp : s.cfg.wellFormed = true) (d : FxWord) :
    exec (.regWrite 0x0003 d) s = .next (withLinkReset (d.getLsbD 0) s) :=
  exec_regWrite_regAddress (r := .global .linkReset) hp rfl d

theorem exec_linkWrite_of_attempts {s : State} (hm : s.coreMode = .run) (h : attempts s = true) :
    exec .linkWrite s = .next (withExchange s) := by
  rw [exec_linkWrite_of_run hm, handshake_of_attempts (by simpa using h)]
  rfl

theorem exec_linkWrite_of_not_attempts {s : State} (hm : s.coreMode = .run) (h : attempts s = false) :
    exec .linkWrite s = .next (withoutExchange s) := by
  rw [exec_linkWrite_of_run hm, handshake_of_not_attempts (by simpa using h)]
  rfl

/-- A LINK_WRITE that sees LINK_RESET at 0 records it, so that a 1 written after it is an edge. -/
theorem execAll_recovery {s : State} (hm : s.coreMode = .run) (he : s.linkEnable = true) (hs : s.linkStatus = false)
    (hp : s.cfg.wellFormed = true) :
    execAll [.regWrite 0x0003 0, .linkWrite, .regWrite 0x0003 1, .linkWrite] s =
      .next (withExchange (withLinkReset true (withoutExchange (withLinkReset false s)))) := by
  have hquiet : attempts (withLinkReset false s) = false := attempts_of_stopped hs (by simp [withLinkReset])
  have hedge : attempts (withLinkReset true (withoutExchange (withLinkReset false s))) = true :=
    (attempts_iff _).mpr ⟨he, .inl ⟨rfl, rfl⟩⟩
  calc execAll [.regWrite 0x0003 0, .linkWrite, .regWrite 0x0003 1, .linkWrite] s
      = execAll [.linkWrite, .regWrite 0x0003 1, .linkWrite] (withLinkReset false s) :=
        execAll_cons (exec_regWrite_linkReset hp 0) _
    _ = execAll [.regWrite 0x0003 1, .linkWrite] (withoutExchange (withLinkReset false s)) :=
        execAll_cons (exec_linkWrite_of_not_attempts (s := withLinkReset false s) hm hquiet) _
    _ = execAll [.linkWrite] (withLinkReset true (withoutExchange (withLinkReset false s))) :=
        execAll_cons (exec_regWrite_linkReset (s := withoutExchange (withLinkReset false s)) hp 1) _
    _ = _ := execAll_singleton (exec_linkWrite_of_attempts (s := withLinkReset true _) hm hedge)

/-- Settles O40: of the two LINK_WRITEs of the sequence the second alone makes an exchange. -/
theorem resetEdgeRearmsTheLink : Obligations.ResetEdgeRearmsTheLink := by
  unfold Obligations.ResetEdgeRearmsTheLink
  intro s hm he hs hp
  refine ⟨_, execAll_recovery hm he hs hp, ?_, ?_⟩
  · rw [withExchange_link]
    rfl
  · rw [withExchange, recordReset_attemptCount, attemptExchange_attemptCount]
    rfl

end Sys2Proof.Machine
end

section
/-! PROOFS about the machine as a whole. A reset gives the state of the table, in which the invariant holds; each operation
keeps the invariant and, from a state that meets it, ends in a next state; so every step does, and every run goes on. -/

namespace Sys2Proof.Machine

/-! ## Reset -/

/-- The state that a fall of RST_N leaves, with the host's next events. -/
theorem enterReset_takeEvent {s : State} {e : HostEvent} {es : List HostEvent} (h : s.host.events = e :: es) :
    enterReset (takeEvent s) = { State.initial s.cfg with
      host := { rstN := false, cmdDone := false, events := es }
      link := { csN := true, sclk := false, mosi := false, wstb := false, wdo := 0, answers := s.link.answers,
                exchanges := s.link.exchanges, frames := s.link.frames } } := by
  rw [enterReset, takeEvent_host, h]
  rfl

theorem step_of_command_in_reset {s : State} {c : Command} {es : List HostEvent} (hr : s.host.rstN = false)
    (h : s.host.events = .command c :: es) : step s = .next { s with host := { s.host with events := es } } := by
  simp [step, h, hostEvent, takeEvent, hr]

theorem step_of_rstHigh {s : State} {es : List HostEvent} (h : s.host.events = .rstHigh :: es) :
    step s = .next { s with host := { s.host with rstN := true, events := es } } := by
  simp [step, h, hostEvent, takeEvent, leaveReset]

theorem run_succ {s t : State} (h : step s = .next t) (k : Nat) : core.run (k + 1) s = core.run k t := by
  have hcore : core.step s = .next t := h
  simp only [Host.Core.run, hcore]

/-- Commands presented in reset are dropped one by one, until RST_N rises. -/
theorem run_commands_in_reset (cs : List Command) {s : State} {es : List HostEvent} (hr : s.host.rstN = false)
    (h : s.host.events = cs.map HostEvent.command ++ .rstHigh :: es) :
    core.run (cs.length + 1) s = .next { s with host := { s.host with rstN := true, events := es } } := by
  induction cs generalizing s with
  | nil => exact run_succ (step_of_rstHigh h) 0
  | cons c cs ih => exact (run_succ (step_of_command_in_reset hr h) _).trans (ih hr rfl)

/-- Settles O54: the step of each event, and the whole sequence by induction on the commands presented in it. -/
theorem resetOverridesEverything : Obligations.ResetOverridesEverything := by
  unfold Obligations.ResetOverridesEverything
  intro s es heldLink
  refine ⟨fun e he h => ?_, fun c hr h => step_of_command_in_reset hr h, step_of_rstHigh, fun e cs he h => ?_⟩
  · rw [step_of_reset_falls he h, enterReset_takeEvent h]
  · rw [run_succ (step_of_reset_falls he h), enterReset_takeEvent h]
    exact run_commands_in_reset cs rfl rfl

/-! ## The invariant at reset -/

theorem axisReset_freqBounded {p : Params} (hp : p.wellFormed = true) : Axis.reset.freqBounded p := by
  obtain ⟨hmf, -⟩ := mfHw_bounds hp
  have hfreq : fxVal Axis.reset.freqCmd = 0 := fxVal_zero
  rw [Axis.freqBounded, hfreq]
  omega

theorem axisReset_scaleCached : Axis.reset.scaleCached := by
  unfold Axis.scaleCached
  decide

/-- The invariant holds of the registers of the table, whatever the two sides hold that it says nothing of. -/
theorem initial_inv {p : Params} (hp : p.wellFormed = true) {host : HostPort} {link : LinkPort}
    (hidle : link.csN = true ∧ link.sclk = false ∧ link.wstb = false)
    (hheld : host.rstN = false →
      enterReset { State.initial p with host := host, link := link } =
        { State.initial p with host := host, link := link }) :
    ({ State.initial p with host := host, link := link } : State).Inv where
  params := hp
  sizes := by simp [State.sized, State.initial]
  statusActive := by simp [State.initial]
  freshStatus := by simp [State.initial]
  inputs := by simp [State.initial]
  frequencies a ha := by
    rw [List.eq_of_mem_replicate ha]
    exact axisReset_freqBounded hp
  tags hrun := by cases hrun
  tick := .inl ⟨rfl, rfl, rfl⟩
  scales a ha := by
    rw [List.eq_of_mem_replicate ha]
    exact axisReset_scaleCached
  errBits := BitVec.zero_and
  tx := ⟨wf_nil, within_nil _⟩
  rx := ⟨wf_nil, within_nil _⟩
  linkIdle := hidle
  heldInReset := hheld

theorem started_inv {p : Params} (hp : p.wellFormed = true) (events : List HostEvent) (answers : List RemoteAnswer) :
    (State.started p events answers).Inv :=
  initial_inv hp ⟨rfl, rfl, rfl⟩ fun h => by cases h

/-- Settles O55: the state right after reset is one that has been started with nothing to come. -/
theorem invariantHoldsAtReset : Obligations.InvariantHoldsAtReset := by
  unfold Obligations.InvariantHoldsAtReset
  exact ⟨started_inv (p := Params.example95) (by decide) [] [], fun _ events answers hp => started_inv hp events answers⟩

theorem enterReset_inv {s : State} (h : s.Inv) : (enterReset s).Inv := initial_inv h.params ⟨rfl, rfl, rfl⟩ fun _ => rfl

/-! ## The host side -/

/-- The invariant says nothing of the host side, but in reset. -/
theorem inv_withHost {s : State} (h : s.Inv) {host : HostPort}
    (hheld : host.rstN = false → enterReset { s with host := host } = { s with host := host }) :
    ({ s with host := host } : State).Inv :=
  { h with heldInReset := hheld }

theorem takeEvent_inv {s : State} (h : s.Inv) : (takeEvent s).Inv :=
  inv_withHost h fun hr => congrArg takeEvent (h.heldInReset hr)

theorem leaveReset_inv {s : State} (h : s.Inv) : (leaveReset s).Inv := inv_withHost h fun hr => by cases hr

/-- The clause about reset holds of a core with RST_N at 1. -/
theorem not_inReset {b : Bool} (hr : b = true) {P : Prop} (hf : b = false) : P := absurd (hr.symm.trans hf) (by simp)

theorem completeCommand_inv {s : State} (h : s.Inv) (hr : s.host.rstN = true) : (completeCommand s).Inv :=
  inv_withHost h (not_inReset hr)

/-! ## The operations

A command is performed with RST_N at 1, so that the clause about reset holds of what an operation leaves. -/

section Operations

variable {s : State}

theorem errSet_bits {e : Word32} (h : e &&& ~~~errMask = 0) (c : ErrCause) : errSet c e &&& ~~~errMask = 0 := by
  have hcode : (1#32 <<< errCode c) &&& ~~~errMask = 0 := by cases c <;> decide
  rw [errSet, BitVec.and_comm, BitVec.and_or_distrib_left, BitVec.and_comm, h, BitVec.and_comm, hcode]
  rfl

theorem raise_inv (h : s.Inv) (hr : s.host.rstN = true) (c : ErrCause) : (raise c s).Inv :=
  { h with
    errBits := errSet_bits h.errBits c
    heldInReset := not_inReset hr }

theorem writeErr_inv (h : s.Inv) (hr : s.host.rstN = true) (d : FxWord) : (writeErr s d).Inv :=
  { h with
    errBits := by
      rw [writeErr_err, errClear, BitVec.and_assoc, BitVec.and_not_self]
      exact BitVec.and_zero
    heldInReset := not_inReset hr }

/-- What the invariant asks of the registers of one axis. -/
def axisOk (s : State) (a : Axis) : Prop := a.freqBounded s.cfg ∧ (s.coreMode = .run → a.tagsLegal) ∧ a.scaleCached

theorem axisOk_of_mem (h : s.Inv) {a : Axis} (ha : a ∈ s.axes) : axisOk s a :=
  ⟨h.frequencies a ha, fun hm => h.tags hm a ha, h.scales a ha⟩

theorem inv_withAxes (h : s.Inv) (hr : s.host.rstN = true) {axes : List Axis} (hlen : axes.length = s.axes.length)
    (hax : ∀ a ∈ axes, axisOk s a) : ({ s with axes := axes } : State).Inv := by
  obtain ⟨hsp, hpv, hdo, hdi, hdn, hlenJ⟩ := h.sizes
  exact { h with
    sizes := ⟨hsp, hpv, hdo, hdi, hdn, hlen.trans hlenJ⟩
    frequencies := fun a ha => (hax a ha).1
    tags := fun hm a ha => (hax a ha).2.1 hm
    scales := fun a ha => (hax a ha).2.2
    heldInReset := not_inReset hr }

/-! ### INIT and CMDGEN -/

theorem init_inv (h : s.Inv) (hr : s.host.rstN = true) (htags : ∀ a ∈ s.axes, a.tagsLegal) :
    ({ s with coreMode := .run } : State).Inv :=
  { h with
    tags := fun _ => htags
    heldInReset := not_inReset hr }

theorem cacheTick_inv (h : s.Inv) (hr : s.host.rstN = true) {period : Word32} (hpos : 0 < period.toInt) :
    (cacheTick period s).Inv := by
  have htick := cacheTick_tickCached h.tick hpos
  by_cases heq : period = s.oldPeriod
  · rwa [cacheTick_of_eq heq]
  · rw [cacheTick_of_ne heq] at htick ⊢
    exact { h with
      tick := htick
      heldInReset := not_inReset hr }

theorem scaleChange_scaleCached {a : Axis} (h : a.scaleCached) : (scaleChange a).scaleCached := by
  by_cases heq : a.scale = a.oldScale
  · rwa [scaleChange_of_eq heq]
  · refine ⟨(scaleChange_scale_ne_zero h.1).2, ?_⟩
    by_cases hzero : a.scale = 0
    · rw [scaleChange_of_zero heq hzero]
      exact congrArg fxWord (show fxOne = fxDiv fxOne (fxVal (fxWord fxOne)) by decide)
    · rw [scaleChange_of_ne_zero heq hzero]

theorem axisStep_axisOk (h : s.Inv) (hdt : 0 ≤ fxVal s.dt) (hrecip : 0 ≤ fxVal s.recipDt) {a : Axis}
    (ha : axisOk s a) : axisOk s (axisStep (mfHw s.cfg) (fxVal s.dt) (fxVal s.recipDt) a) := by
  obtain ⟨hfreq, htags, hscale⟩ := ha
  refine ⟨axisStep_freqBounded h.params hdt hrecip hfreq, ?_, ?_⟩
  · rw [axisStep_eq]
    exact htags
  · rw [axisStep_eq]
    exact scaleChange_scaleCached hscale

theorem stepAxes_inv (h : s.Inv) (hr : s.host.rstN = true) : (stepAxes s).Inv := by
  obtain ⟨hdt, hrecip⟩ := tickCached_nonneg h.tick
  refine inv_withAxes h hr (List.length_map _) fun b hb => ?_
  obtain ⟨a, ha, rfl⟩ := List.mem_map.mp hb
  exact axisStep_axisOk h hdt hrecip (axisOk_of_mem h ha)

/-! ### REG_WRITE and REG_READ -/

/-- A write of MODE or FB_TYPE is possible in CONFIG mode only; no other write touches what the invariant speaks of. -/
theorem writeAxis_axisOk {r : AxisReg} (hacc : axisAccess r = .rw ∨ s.coreMode = .config) {a : Axis} (ha : axisOk s a)
    (d : FxWord) : axisOk s (writeAxis a d r) := by
  have config_ne_run (hm : s.coreMode = .config) {P : Prop} : s.coreMode = .run → P := fun hrun => by simp [hm] at hrun
  cases r with
  | mode | fbType =>
    rcases hacc with hacc | hm
    · cases hacc
    · exact ⟨ha.1, config_ne_run hm, ha.2.2⟩
  | _ => exact ha

theorem writeReg_inv (h : s.Inv) (hr : s.host.rstN = true) {r : Reg} (hacc : regAccess r = .rw ∨ s.coreMode = .config)
    (d : FxWord) : (writeReg s d r).Inv := by
  have hsized := writeReg_sized h.sizes d r
  cases r with
  | global g =>
    cases g with
    | linkEnable | linkReset | hwResetIn => exact { h with heldInReset := not_inReset hr }
    | _ => exact h
  | setpoint | dout => exact { h with sizes := hsized, heldInReset := not_inReset hr }
  | pv | din | dinNot => exact h
  | axis j o =>
    refine inv_withAxes h hr (List.length_modify _ _ _) fun b hb => ?_
    obtain ⟨i, hi⟩ := List.mem_iff_getElem?.mp hb
    rw [List.getElem?_modify] at hi
    obtain ⟨a, ha, rfl⟩ := Option.map_eq_some_iff.mp hi
    have hok := axisOk_of_mem h (List.mem_of_getElem? ha)
    split
    · exact writeAxis_axisOk hacc hok d
    · exact hok

theorem writeMapped_inv (h : s.Inv) (hr : s.host.rstN = true) (r : Reg) (d : FxWord) : (writeMapped r d s).Inv := by
  rcases writeMapped_cases r d s with ⟨-, hw⟩ | ⟨-, -, hw⟩ | ⟨-, hm, hw⟩ | ⟨-, hw⟩ | ⟨ha, hw⟩ <;> rw [hw]
  · exact raise_inv h hr _
  · exact raise_inv h hr _
  · exact writeReg_inv h hr (.inr hm) d
  · exact writeErr_inv h hr d
  · exact writeReg_inv h hr (.inl ha) d

theorem inv_withDataOut (h : s.Inv) (hr : s.host.rstN = true) (v : FxWord) : ({ s with dataOut := v } : State).Inv :=
  { h with heldInReset := not_inReset hr }

/-! ### LINK_READ -/

/-- A decode writes POS_FB, COUNT and OLD_COUNT alone, of which the invariant says nothing. -/
theorem decodeAxis_axisOk {a : Axis} (ha : axisOk s a) (raw : Word32) : axisOk s (decodeAxis raw a) := by
  unfold decodeAxis
  split
  · exact ha
  · exact ha

theorem decodePacket_inv (h : s.Inv) (hr : s.host.rstN = true) : (decodePacket s).Inv := by
  have haxes : ({ s with axes := s.axes.mapIdx fun j a => decodeAxis (rawCounter s j) a } : State).Inv := by
    refine inv_withAxes h hr List.length_mapIdx fun b hb => ?_
    obtain ⟨j, hj, rfl⟩ := List.mem_mapIdx.mp hb
    exact decodeAxis_axisOk (axisOk_of_mem h (List.getElem_mem hj)) _
  obtain ⟨hsp, -, hdo, -, -, hlen⟩ := haxes.sizes
  exact { haxes with
    sizes := ⟨hsp, by simp, hdo, by simp, by simp, hlen⟩
    freshStatus := fun hf => by cases hf
    inputs := by simp
    heldInReset := not_inReset hr }

/-! ### LINK_WRITE -/

theorem prepareLink_inv (h : s.Inv) (hr : s.host.rstN = true) : (prepareLink s).Inv :=
  { h with
    freshStatus := fun hf => by cases hf
    tx := ⟨buildTx_wf (s := { s with rxFresh := false, hwResetOut := s.hwResetIn }) h.tx.1,
      buildTx_within (s := { s with rxFresh := false, hwResetOut := s.hwResetIn }) h.sizes h.tx.2⟩
    heldInReset := not_inReset hr }

theorem recordReset_inv (h : s.Inv) (hr : s.host.rstN = true) : (recordReset s).Inv :=
  { h with heldInReset := not_inReset hr }

/-- A link that attempts nothing is not Active, by R61 (a). -/
theorem idleHsState_ne_active (h : s.Inv) (ha : attempts s = false) : idleHsState s ≠ .active := by
  unfold idleHsState
  split_ifs with he hh
  · simp
  · simp
  · exact fun hactive =>
      absurd (attempts_of_enabled (by simpa using he) (.inl (h.statusActive.mpr hactive))) (by simp [ha])

theorem withoutExchange_inv (h : s.Inv) (hr : s.host.rstN = true) (ha : attempts s = false) :
    (withoutExchange s).Inv := by
  have hidle := idleHsState_ne_active h ha
  refine recordReset_inv (s := { prepareLink s with linkStatus := false, hsState := idleHsState s }) ?_ hr
  exact { prepareLink_inv h hr with
    statusActive := iff_of_false (by simp) hidle
    freshStatus := fun hf => by cases hf
    heldInReset := not_inReset hr }

theorem length_of_remoteAnswer {link : LinkPort} {n : Nat} {rx : List Byte} (h : remoteAnswer link n = .complete rx) :
    rx.length = n := by
  have hlen (listed : List Byte) : (remoteStream link.exchanges n listed).length = n := by simp [remoteStream]
  unfold remoteAnswer at h
  split at h
  · split at h
    · cases h
    · cases h
      exact hlen _
  · cases h
  · cases h
    exact hlen _

/-- RXBUF after an attempt: kept by an ABORT, and otherwise the L bytes of the answer. -/
theorem attemptExchange_rxbuf (hrx : s.rxbuf.wf = true ∧ s.rxbuf.within (exchangeLen s.cfg) = true) :
    (attemptExchange s).rxbuf.wf = true ∧ (attemptExchange s).rxbuf.within (exchangeLen s.cfg) = true := by
  cases hans : remoteAnswer s.link (exchangeLen s.cfg) with
  | abort =>
    rw [attemptExchange_of_abort hans]
    exact hrx
  | complete rx =>
    rw [attemptExchange_of_complete hans, classify_rxbuf, afterAnswer_rxbuf]
    exact ⟨memWriteBytes_wf wf_nil _ _,
      memWriteBytes_within (within_nil _) (by rw [length_of_remoteAnswer hans, Nat.zero_add])⟩

/-- The flags of the handshake after an attempt, by its two outcomes: clauses (a) and (b) of R61, and the bits of ERR. -/
theorem attemptExchange_flags (hfresh : s.rxFresh = false) (herr : s.err &&& ~~~errMask = 0) :
    ((attemptExchange s).linkStatus = true ↔ (attemptExchange s).hsState = .active) ∧
      ((attemptExchange s).rxFresh = true → (attemptExchange s).linkStatus = true) ∧
      (attemptExchange s).err &&& ~~~errMask = 0 := by
  rcases attemptExchange_outcome s with ⟨hh, hs, hf, -, he⟩ | ⟨hh, hs, hf, he⟩
  · rw [hh, hs, he]
    exact ⟨by simp, fun _ => rfl, herr⟩
  · rw [hh, hs, hf, hfresh]
    refine ⟨by simp, by simp, ?_⟩
    rcases he with he | he | he <;> rw [he]
    · exact errSet_bits herr .estop
    · exact errSet_bits herr .badTag
    · exact errSet_bits herr .xferFail

theorem attemptExchange_inv (h : s.Inv) (hr : s.host.rstN = true) (hfresh : s.rxFresh = false) :
    (attemptExchange s).Inv := by
  obtain ⟨hstatus, hfreshStatus, herr⟩ := attemptExchange_flags hfresh h.errBits
  obtain ⟨hcs, hclk, hstb, -⟩ :=
    linkAfterExchange_idle s.cfg.transport (memBytes s.txbuf (exchangeLen s.cfg)) s.link
  constructor
  case params => simpa using h.params
  case sizes => simpa [State.sized] using h.sizes
  case statusActive => exact hstatus
  case freshStatus => exact hfreshStatus
  case inputs => simpa using h.inputs
  case frequencies => simpa using h.frequencies
  case tags => simpa using h.tags
  case tick => simpa [State.tickCached] using h.tick
  case scales => simpa using h.scales
  case errBits => exact herr
  case tx => simpa using h.tx
  case rx => simpa using attemptExchange_rxbuf h.rx
  case linkIdle =>
    rw [attemptExchange_link]
    exact ⟨hcs, hclk, hstb⟩
  case heldInReset =>
    rw [attemptExchange_host]
    exact not_inReset hr

theorem withExchange_inv (h : s.Inv) (hr : s.host.rstN = true) : (withExchange s).Inv :=
  recordReset_inv (attemptExchange_inv (prepareLink_inv h hr) hr rfl) (by simpa using hr)

/-! ### Every operation -/

theorem exec_inv {i : Instr} {t : State} (h : s.Inv) (hr : s.host.rstN = true) (hx : exec i s = .next t) : t.Inv := by
  cases i with
  | nop => rwa [exec_nop_cases hx]
  | init =>
    rcases exec_init_cases hx with ⟨-, rfl⟩ | ⟨-, htags, rfl⟩ | ⟨-, -, rfl⟩
    · exact h
    · exact init_inv h hr ((all_tagsLegal_iff _).mp htags)
    · exact raise_inv h hr _
  | cmdgen period =>
    rcases exec_cmdgen_cases hx with ⟨-, rfl⟩ | ⟨-, -, rfl⟩ | ⟨-, hpos, -, rfl⟩
    · exact raise_inv h hr _
    · exact raise_inv h hr _
    · exact stepAxes_inv (cacheTick_inv h hr hpos) (by simpa using hr)
  | linkWrite =>
    rcases exec_linkWrite_cases hx with ⟨-, rfl⟩ | ⟨hm, -⟩
    · exact raise_inv h hr _
    · rcases exec_linkWrite_run_cases hm hx with ⟨ha, rfl⟩ | ⟨-, rfl⟩
      · exact withoutExchange_inv h hr ha
      · exact withExchange_inv h hr
  | linkRead =>
    rcases exec_linkRead_cases hx with ⟨-, rfl⟩ | ⟨-, -, rfl⟩ | ⟨-, -, -, rfl⟩
    · exact raise_inv h hr _
    · exact h
    · exact decodePacket_inv h hr
  | regWrite a d =>
    rcases exec_regWrite_cases hx with ⟨-, rfl⟩ | ⟨r, -, rfl⟩
    · exact raise_inv h hr _
    · exact writeMapped_inv h hr r d
  | regRead a =>
    rcases exec_regRead_cases hx with ⟨-, rfl⟩ | ⟨r, -, rfl⟩
    · exact raise_inv (inv_withDataOut h hr 0) hr _
    · exact inv_withDataOut h hr _

theorem writeMapped_host (r : Reg) (d : FxWord) (s : State) : (writeMapped r d s).host = s.host := by
  rcases writeMapped_cases r d s with ⟨-, hw⟩ | ⟨-, -, hw⟩ | ⟨-, -, hw⟩ | ⟨-, hw⟩ | ⟨-, hw⟩ <;> simp [hw]

/-- An operation leaves the host side to the port. -/
theorem exec_host {i : Instr} {t : State} (hx : exec i s = .next t) : t.host = s.host := by
  cases i with
  | nop => rw [exec_nop_cases hx]
  | init => rcases exec_init_cases hx with ⟨-, rfl⟩ | ⟨-, -, rfl⟩ | ⟨-, -, rfl⟩ <;> rfl
  | cmdgen period => rcases exec_cmdgen_cases hx with ⟨-, rfl⟩ | ⟨-, -, rfl⟩ | ⟨-, -, -, rfl⟩ <;> simp
  | linkWrite => rcases exec_linkWrite_cases hx with ⟨-, rfl⟩ | ⟨-, rfl⟩ <;> simp
  | linkRead => rcases exec_linkRead_cases hx with ⟨-, rfl⟩ | ⟨-, -, rfl⟩ | ⟨-, -, -, rfl⟩ <;> rfl
  | regWrite a d =>
    rcases exec_regWrite_cases hx with ⟨-, rfl⟩ | ⟨r, -, rfl⟩
    · rfl
    · exact writeMapped_host r d s
  | regRead a => rcases exec_regRead_cases hx with ⟨-, rfl⟩ | ⟨r, -, rfl⟩ <;> rfl

theorem performCommand_inv {c : Command} {t : State} (h : s.Inv) (hr : s.host.rstN = true)
    (hx : performCommand c s = .next t) : t.Inv := by
  rcases performCommand_cases hx with ⟨why, -, rfl⟩ | ⟨i, u, -, hu, rfl⟩
  · exact completeCommand_inv (raise_inv h hr _) hr
  · exact completeCommand_inv (exec_inv h hr hu) (by rw [exec_host hu, hr])

end Operations

/-! ## A step -/

theorem step_inv {s t : State} (h : s.Inv) (hx : step s = .next t) : t.Inv := by
  rcases step_cases hx with ⟨-, rfl⟩ | ⟨c, es, -, hr, hc⟩ | ⟨c, es, -, -, rfl⟩ | ⟨es, -, rfl⟩ | ⟨-, rfl⟩
  · exact h
  · exact performCommand_inv (takeEvent_inv h) hr hc
  · exact takeEvent_inv h
  · exact leaveReset_inv (takeEvent_inv h)
  · exact enterReset_inv (takeEvent_inv h)

/-- Settles O56: the five cases of a step, a command by the operation it performs. -/
theorem everyStepKeepsTheInvariant : Obligations.EveryStepKeepsTheInvariant := by
  unfold Obligations.EveryStepKeepsTheInvariant
  exact fun _ _ => step_inv

/-- The two faults are at tags that the invariant excludes in RUN mode. -/
theorem exec_next_of_inv {s : State} (h : s.Inv) (i : Instr) : ∃ t, exec i s = .next t := by
  cases i with
  | nop => exact ⟨s, rfl⟩
  | init =>
    simp only [exec, execInit]
    split
    · exact ⟨_, rfl⟩
    · split <;> exact ⟨_, rfl⟩
  | cmdgen period =>
    by_cases hm : s.coreMode = .config
    · exact ⟨_, exec_cmdgen_of_config hm period⟩
    · rw [ne_config_iff] at hm
      by_cases hpos : 0 < period.toInt
      · exact ⟨_, exec_cmdgen_of_run hm hpos ((all_modeTagOk_iff _).mpr fun a ha => (h.tags hm a ha).1)⟩
      · exact ⟨_, exec_cmdgen_of_not_pos hm (by omega)⟩
  | linkWrite =>
    by_cases hm : s.coreMode = .config
    · exact ⟨_, exec_linkWrite_of_config hm⟩
    · exact ⟨_, exec_linkWrite_of_run ((ne_config_iff _).mp hm)⟩
  | linkRead =>
    simp only [exec, execLinkRead]
    split
    · exact ⟨_, rfl⟩
    next hm =>
      have htags : s.axes.all fbTypeTagOk = true :=
        List.all_eq_true.mpr fun a ha => decide_eq_true (h.tags ((ne_config_iff _).mp hm) a ha).2
      rw [if_pos htags]
      split <;> exact ⟨_, rfl⟩
  | regWrite a d =>
    simp only [exec, execRegWrite]
    split <;> exact ⟨_, rfl⟩
  | regRead a =>
    simp only [exec, execRegRead]
    split <;> exact ⟨_, rfl⟩

theorem performCommand_next_of_inv {s : State} (h : s.Inv) (c : Command) : ∃ t, performCommand c s = .next t := by
  cases hdec : decode c.cmd c.dataIn with
  | illegal why => exact ⟨_, performCommand_of_illegal hdec s⟩
  | instr i =>
    obtain ⟨t, ht⟩ := exec_next_of_inv h i
    exact ⟨completeCommand t, by simp only [performCommand, hdec, ht, thenState]⟩

theorem step_next_of_inv {s : State} (h : s.Inv) : ∃ t, step s = .next t := by
  cases he : s.host.events with
  | nil => exact ⟨s, by rw [step, he]⟩
  | cons e es =>
    cases e with
    | command c =>
      cases hr : s.host.rstN with
      | false => exact ⟨_, step_of_command_in_reset hr he⟩
      | true =>
        rw [step_of_command hr he]
        exact performCommand_next_of_inv (takeEvent_inv h) c
    | rstLow => exact ⟨_, step_of_reset_falls (.inl rfl) he⟩
    | rstHigh => exact ⟨_, step_of_rstHigh he⟩
    | commandCut c => exact ⟨_, step_of_reset_falls (.inr ⟨c, rfl⟩) he⟩

/-- Settles O57, by the next event of the host. -/
theorem noStepStopsTheMachine : Obligations.NoStepStopsTheMachine := by
  unfold Obligations.NoStepStopsTheMachine
  exact fun _ => step_next_of_inv

/-- A run goes on and keeps the invariant, by induction on its length. -/
theorem run_inv (k : Nat) {s : State} (h : s.Inv) : ∃ t : State, core.run k s = .next t ∧ t.Inv := by
  induction k generalizing s with
  | zero => exact ⟨s, rfl, h⟩
  | succ k ih =>
    obtain ⟨u, hu⟩ := step_next_of_inv h
    rw [run_succ hu]
    exact ih (step_inv h hu)

/-- Settles O58: the invariant holds where a run starts. -/
theorem everyRunGoesOnForever : Obligations.EveryRunGoesOnForever := by
  unfold Obligations.EveryRunGoesOnForever
  exact fun p events answers k hp => run_inv k (started_inv hp events answers)

end Sys2Proof.Machine
end

section
/-! PROOFS of LINK_READ. The decode of a fresh packet and that it happens once; the accumulator over a sequence of packets;
and that a stale RXBUF is seen by no operation. -/

namespace Sys2Proof.Machine

/-! ## The decode of a packet -/

theorem exec_linkRead_of_fresh {s : State} (hm : s.coreMode = .run) (hfresh : s.rxFresh = true)
    (htags : s.axes.all fbTypeTagOk = true) : exec .linkRead s = .next (decodePacket s) :=
  (if_neg (by simp [hm])).trans ((if_neg (by simp [hfresh])).trans (if_pos htags))

theorem exec_linkRead_of_stale {s : State} (hm : s.coreMode = .run) (hstale : s.rxFresh = false) :
    exec .linkRead s = .next s :=
  (if_neg (by simp [hm])).trans (if_pos (by simp [hstale]))

/-- Settles O43: the update of `decodePacket`, its offsets written out. -/
theorem linkReadDecodesTheFreshPacket : Obligations.LinkReadDecodesTheFreshPacket := by
  unfold Obligations.LinkReadDecodesTheFreshPacket
  intro s hm hfresh htags
  exact exec_linkRead_of_fresh hm hfresh (List.all_eq_true.mpr fun a ha => decide_eq_true (htags a ha))

/-- A LINK_WRITE that ends with LINK_STATUS = 0 leaves no fresh packet. -/
theorem linkWrite_stale {s t : State} (hm : s.coreMode = .run) (h : exec .linkWrite s = .next t)
    (hs : t.linkStatus = false) : t.rxFresh = false := by
  rcases exec_linkWrite_run_cases hm h with ⟨-, rfl⟩ | ⟨-, rfl⟩
  · rfl
  · rcases withExchange_outcome s with ⟨-, htrue, -⟩ | ⟨-, -, hfresh, -⟩
    · simp [hs] at htrue
    · exact hfresh

/-- Settles O44: LINK_READ without a fresh packet is the identity, and after a decode or a failed exchange there is none. -/
theorem oneDecodePerFreshPacket : Obligations.OneDecodePerFreshPacket := by
  unfold Obligations.OneDecodePerFreshPacket
  refine ⟨fun s => exec_linkRead_of_stale, fun s t hm h => ?_, fun s t hm h hs => ?_⟩
  · rcases exec_linkRead_cases h with ⟨hc, -⟩ | ⟨-, hstale, rfl⟩ | ⟨-, -, -, rfl⟩
    · simp [hm] at hc
    · exact exec_linkRead_of_stale hm hstale
    · exact exec_linkRead_of_stale hm rfl
  · have hstale := linkWrite_stale hm h hs
    rcases exec_linkWrite_cases h with ⟨hc, -⟩ | ⟨-, rfl⟩
    · simp [hm] at hc
    · exact ⟨_, exec_linkRead_of_stale (by simpa using hm) hstale, by simp, by simp, by simp, by simp⟩

/-! ## The accumulator -/

/-- A displacement of the signed 32-bit range survives the wrap of the raw counter. -/
theorem signExtend_ofInt {d : Int} (hlo : -2 ^ 31 ≤ d) (hhi : d < 2 ^ 31) :
    (BitVec.ofInt 32 d).signExtend 64 = BitVec.ofInt 64 d := by
  rw [BitVec.signExtend, BitVec.toInt_ofInt, Int.bmod_eq_of_le (by omega) (by omega)]

theorem decodeIncremental_count {raw : Word32} {a : Axis} {d : Int} (hlo : -2 ^ 31 ≤ d) (hhi : d < 2 ^ 31)
    (hraw : raw = a.oldCount + BitVec.ofInt 32 d) :
    (decodeIncremental raw a).count = a.count + BitVec.ofInt 64 d := by
  have hcount : (decodeIncremental raw a).count = nextCount raw a := rfl
  have hdiff : raw - a.oldCount = BitVec.ofInt 32 d := by rw [hraw, add_sub_cancel_left]
  rw [hcount, nextCount_eq_add, hdiff, signExtend_ofInt hlo hhi]

/-- The counters of a sequence of displacements: each is the one before plus its displacement, wrapped. -/
def countersOf (ds : List Int) (raws : List Word32) (start : Word32) : Prop :=
  raws.length = ds.length ∧
    ∀ i < ds.length, raws.getD i 0 = (if i = 0 then start else raws.getD (i - 1) 0) + BitVec.ofInt 32 (ds.getD i 0)

theorem countersOf_cons {d : Int} {ds : List Int} {raw : Word32} {raws : List Word32} {start : Word32}
    (h : countersOf (d :: ds) (raw :: raws) start) : raw = start + BitVec.ofInt 32 d ∧ countersOf ds raws raw := by
  obtain ⟨hlen, hstep⟩ := h
  refine ⟨by simpa using hstep 0 (by simp), by simpa using hlen, fun i hi => ?_⟩
  have hnext := hstep (i + 1) (by simpa using hi)
  cases i with
  | zero => simpa using hnext
  | succ i => simpa using hnext

/-- COUNT over a sequence of packets, by induction on the displacements with the last raw counter in OLD_COUNT. -/
theorem decodeAll_count {ds : List Int} {raws : List Word32} {a : Axis} (hd : ∀ d ∈ ds, -2 ^ 31 ≤ d ∧ d < 2 ^ 31)
    (h : countersOf ds raws a.oldCount) : (decodeAll a raws).count = a.count + BitVec.ofInt 64 ds.sum := by
  induction ds generalizing a raws with
  | nil =>
    rw [List.length_eq_zero_iff.mp h.1]
    simp [decodeAll]
  | cons d ds ih =>
    cases raws with
    | nil => simp [countersOf] at h
    | cons raw raws =>
      obtain ⟨hraw, hrest⟩ := countersOf_cons h
      obtain ⟨⟨hlo, hhi⟩, hds⟩ := List.forall_mem_cons.mp hd
      calc (decodeAll (decodeIncremental raw a) raws).count
          = (decodeIncremental raw a).count + BitVec.ofInt 64 ds.sum := ih hds hrest
        _ = a.count + BitVec.ofInt 64 (d :: ds).sum := by
          rw [decodeIncremental_count hlo hhi hraw, List.sum_cons, BitVec.ofInt_add, add_assoc]

/-- Settles O47: the sum in word arithmetic is the wrapped sum. -/
theorem accumulatorIsRolloverSafe : Obligations.AccumulatorIsRolloverSafe := by
  unfold Obligations.AccumulatorIsRolloverSafe
  intro ds raws a hd hlen hstep
  rw [decodeAll_count hd ⟨hlen, hstep⟩, BitVec.ofInt_add, BitVec.ofInt_toInt]

/-! ## A stale RXBUF -/

/-- The same core with other bytes in RXBUF. -/
def withRxbuf (m : Memory) (s : State) : State := { s with rxbuf := m }

theorem cacheTick_withRxbuf (period : Word32) (m : Memory) (s : State) :
    cacheTick period (withRxbuf m s) = withRxbuf m (cacheTick period s) := by
  by_cases h : period = s.oldPeriod
  · rw [cacheTick_of_eq h, cacheTick_of_eq (show period = (withRxbuf m s).oldPeriod from h)]
  · rw [cacheTick_of_ne h, cacheTick_of_ne (show period ≠ (withRxbuf m s).oldPeriod from h)]
    rfl

theorem writeMapped_withRxbuf (r : Reg) (d : FxWord) (m : Memory) (s : State) :
    writeMapped r d (withRxbuf m s) = withRxbuf m (writeMapped r d s) := by
  have hreg : writeReg (withRxbuf m s) d r = withRxbuf m (writeReg s d r) := by
    cases r with
    | global g => cases g <;> rfl
    | _ => rfl
  cases h : regAccess r with
  | ro => rw [writeMapped_of_ro h, writeMapped_of_ro h]; rfl
  | rw => rw [writeMapped_of_rw h, writeMapped_of_rw h, hreg]
  | w1c =>
    rw [eq_err_of_w1c h]
    rfl
  | rwc =>
    cases hm : s.coreMode with
    | config =>
      rw [writeMapped_of_rwc_config h hm, writeMapped_of_rwc_config h (show (withRxbuf m s).coreMode = .config from hm),
        hreg]
    | run =>
      rw [writeMapped_of_rwc_run h hm, writeMapped_of_rwc_run h (show (withRxbuf m s).coreMode = .run from hm)]
      rfl

theorem readReg_withRxbuf (r : Reg) (m : Memory) (s : State) : readReg (withRxbuf m s) r = readReg s r := by
  cases r with
  | global g => cases g <;> rfl
  | _ => rfl

theorem thenState_ite (c : Prop) [Decidable c] (x y : Host.Outcome State Fault Refusal) (f : State → State) :
    thenState (if c then x else y) f = if c then thenState x f else thenState y f := by
  split <;> rfl

/-- With no fresh packet, no operation but LINK_WRITE reads or writes RXBUF. -/
theorem exec_withRxbuf {i : Instr} {s : State} (hi : i ≠ .linkWrite) (hstale : s.rxFresh = false) (m : Memory) :
    exec i (withRxbuf m s) = thenState (exec i s) (withRxbuf m) := by
  cases i with
  | nop => rfl
  | init =>
    simp only [exec, execInit, thenState_ite]
    rfl
  | cmdgen period =>
    simp only [exec, execCmdgen, cacheTick_withRxbuf, thenState_ite]
    rfl
  | linkWrite => exact absurd rfl hi
  | linkRead =>
    by_cases hm : s.coreMode = .config
    · rw [exec_linkRead_of_config hm, exec_linkRead_of_config (s := withRxbuf m s) hm]
      rfl
    · rw [ne_config_iff] at hm
      rw [exec_linkRead_of_stale hm hstale, exec_linkRead_of_stale (s := withRxbuf m s) hm hstale]
      rfl
  | regWrite a d =>
    simp only [exec, execRegWrite, writeMapped_withRxbuf, show (withRxbuf m s).cfg = s.cfg from rfl]
    cases regAt s.cfg a <;> rfl
  | regRead a =>
    simp only [exec, execRegRead, readReg_withRxbuf, show (withRxbuf m s).cfg = s.cfg from rfl]
    cases regAt s.cfg a <;> rfl

/-- No operation but LINK_WRITE makes a packet fresh. -/
theorem exec_keeps_stale {i : Instr} {s t : State} (hi : i ≠ .linkWrite) (hstale : s.rxFresh = false)
    (h : exec i s = .next t) : t.rxFresh = false := by
  cases i with
  | nop => rwa [exec_nop_cases h]
  | init => rcases exec_init_cases h with ⟨-, rfl⟩ | ⟨-, -, rfl⟩ | ⟨-, -, rfl⟩ <;> exact hstale
  | cmdgen period =>
    rcases exec_cmdgen_cases h with ⟨-, rfl⟩ | ⟨-, -, rfl⟩ | ⟨-, -, -, rfl⟩ <;> simpa using hstale
  | linkWrite => exact absurd rfl hi
  | linkRead =>
    rcases exec_linkRead_cases h with ⟨-, rfl⟩ | ⟨-, -, rfl⟩ | ⟨-, -, -, rfl⟩
    · exact hstale
    · exact hstale
    · rfl
  | regWrite a d =>
    rcases exec_regWrite_cases h with ⟨-, rfl⟩ | ⟨r, -, rfl⟩
    · exact hstale
    · rcases writeMapped_cases r d s with ⟨-, hw⟩ | ⟨-, -, hw⟩ | ⟨-, -, hw⟩ | ⟨-, hw⟩ | ⟨-, hw⟩ <;>
        simpa [hw] using hstale
  | regRead a => rcases exec_regRead_cases h with ⟨-, rfl⟩ | ⟨r, -, rfl⟩ <;> exact hstale

/-- An attempt that is aborted keeps RXBUF and leaves no fresh packet; a complete one replaces it. -/
theorem attemptExchange_withRxbuf (s : State) (m : Memory) :
    (attemptExchange (withRxbuf m s) = withRxbuf m (attemptExchange s) ∧ (attemptExchange s).rxFresh = s.rxFresh) ∨
      attemptExchange (withRxbuf m s) = attemptExchange s := by
  cases hans : remoteAnswer s.link (exchangeLen s.cfg) with
  | abort =>
    left
    rw [attemptExchange_of_abort hans, attemptExchange_of_abort (s := withRxbuf m s) hans]
    exact ⟨rfl, rfl⟩
  | complete rx =>
    right
    rw [attemptExchange_of_complete hans, attemptExchange_of_complete (s := withRxbuf m s) hans]
    rfl

/-- LINK_WRITE on two cores that differ in RXBUF alone. -/
theorem exec_linkWrite_withRxbuf {s t : State} (m : Memory) (hstale : s.rxFresh = false)
    (h : exec .linkWrite s = .next t) :
    (exec .linkWrite (withRxbuf m s) = .next (withRxbuf m t) ∧ t.rxFresh = false) ∨
      exec .linkWrite (withRxbuf m s) = .next t := by
  rcases exec_linkWrite_cases h with ⟨hm, rfl⟩ | ⟨hm, -⟩
  · exact .inl ⟨exec_linkWrite_of_config (s := withRxbuf m s) hm, hstale⟩
  · rcases exec_linkWrite_run_cases hm h with ⟨ha, rfl⟩ | ⟨ha, rfl⟩
    · exact .inl ⟨exec_linkWrite_of_not_attempts (s := withRxbuf m s) hm ha, rfl⟩
    · have hexec := exec_linkWrite_of_attempts (s := withRxbuf m s) hm ha
      rcases attemptExchange_withRxbuf (prepareLink s) m with ⟨heq, hfresh⟩ | heq
      · exact .inl ⟨hexec.trans (congrArg (Host.Outcome.next ∘ recordReset) heq), hfresh⟩
      · exact .inr (hexec.trans (congrArg (Host.Outcome.next ∘ recordReset) heq))

/-- Settles O49: LINK_WRITE is the one operation that can replace RXBUF, and it does so from the answer alone. -/
theorem staleRxbufIsUnobservable : Obligations.StaleRxbufIsUnobservable := by
  unfold Obligations.StaleRxbufIsUnobservable
  intro i s t m hstale h
  by_cases hlw : i = .linkWrite
  · subst hlw
    rcases exec_linkWrite_withRxbuf m hstale h with ⟨hexec, hfresh⟩ | hexec
    · exact ⟨m, hexec, fun hf => absurd (hfresh.symm.trans hf) (by simp)⟩
    · exact ⟨t.rxbuf, hexec, fun _ => rfl⟩
  · have hfresh := exec_keeps_stale hlw hstale h
    refine ⟨m, ?_, fun hf => absurd (hfresh.symm.trans hf) (by simp)⟩
    exact (exec_withRxbuf hlw hstale m).trans (by rw [h]; rfl)

end Sys2Proof.Machine
end
